-- ==== Sys2Proof/Word.lean ====
section
/-!
DEFINITION. The vector widths of the input block (spec R10, R21, R80): bit 0 is the least significant bit,
every value is unsigned, and no value but the operation word is wider than 12 bits.
-/

namespace Sys2Proof

/-- One operation word, `w[15:0]` (R80). -/
abbrev Word := BitVec 16

/-- One byte of a serialized trace (R61). -/
abbrev Byte := BitVec 8

/-- Per-pin state: bit i belongs to input pin i, switch SW(i+1), button i+1 (R10, R25). -/
abbrev Pins := BitVec 4

/-- The LED register or an LED mask: bit 0 is Red, bit 1 is Green (R33). -/
abbrev Leds := BitVec 2

/-- A period handed to the tone generator's `set_period` (R48, R81). -/
abbrev Period := BitVec 12

/-- The number of an input pin, 0 to 3 (R82, R100). -/
abbrev Pin := Fin 4

end Sys2Proof
end

