-- ==== Sys2Proof/Config.lean ====
section
/-!
DEFINITION. What is fixed for one machine: the named parameters of spec R8, which the model takes as plain data held in
`State.cfg` (so that a statement for every state is a statement for every parameter value), the constants of R7, and the
symbolic delays of R9.
-/

namespace Sys2Proof

/-- `CLEAR_SCOPE` (R8, R122): which pending flags SVC_CLEAR clears. -/
inductive ClearScope where
  | group
  | observed
  | either
  deriving DecidableEq, Repr

/-- `SENSE_WRITE_PENDING` (R8, R124): whether re-arming a pin can set its pending flag. -/
inductive SenseWritePending where
  | never
  | may
  | any
  deriving DecidableEq, Repr

/-- `FLASH_TOGGLE_FORM` (R8, R177): the loop's both-LED toggle as two single-bit steps or as one. -/
inductive FlashToggleForm where
  | split
  | atomic
  deriving DecidableEq, Repr

/-- The named parameters of R8 that are not carried in an operation word. -/
structure Config where
  /-- `CLEAR_SCOPE`, default `either`. -/
  clearScope : ClearScope
  /-- `SENSE_WRITE_PENDING`, default `may`. -/
  senseWritePending : SenseWritePending
  /-- `FLASH_TOGGLE_FORM`, default `split`. -/
  flashToggleForm : FlashToggleForm
  /-- `LEVEL0`: the switch levels at launch (R22, R230). -/
  level0 : Pins
  deriving DecidableEq, Repr

/-- The defaults of R8; the spec names no default `LEVEL0`: all buttons released is a DESIGN CHOICE (log entry 2, unsafe). -/
def Config.default : Config :=
  { clearScope := .either, senseWritePending := .may, flashToggleForm := .split, level0 := 0b1111#4 }

/-- `PERIOD_MIN` (R7). -/
def Config.periodMin : Nat := 500

/-- `PERIOD_MAX` (R7). -/
def Config.periodMax : Nat := 2000

/-- `PERIOD_STEP` (R7). -/
def Config.periodStep : Nat := 100

/-- `PASS_LEN` (R7): calls per sweep pass. -/
def Config.passLen : Nat := (Config.periodMax - Config.periodMin) / Config.periodStep + 1

/-- `SWEEP_LEN` (R7): calls per pass pair. -/
def Config.sweepLen : Nat := 2 * Config.passLen

/-- `SILENCE` (R7): the period that silences the tone generator. -/
def Config.silence : Period := 0

/-- `T_STEP` (R9): the length of the delay after a sweep step, symbolic; no rule reads it (log entry 15). -/
opaque Config.tStep : Nat

/-- `T_FLASH` (R9): the length of the flash delay, symbolic; no rule reads it (log entry 15). -/
opaque Config.tFlash : Nat

end Sys2Proof
end

