-- ==== Sys2Proof/Syntax.lean ====
section
/-!
DEFINITION. The 21 operations of the block, one constructor per row of spec/opcode_table.json (R84), with the operand
fields of R82, and the agent that performs each (R6, R84).
-/

namespace Sys2Proof

/-- The three agents that perform steps (R6). -/
inductive Agent where
  /-- The switches. -/
  | env
  /-- The input state machine, the source's interrupt handler. -/
  | seq
  /-- The main loop. -/
  | loop
  deriving DecidableEq, Repr

/-- The operations (R84). -/
inductive Instr where
  /-- RESET R, L: power-on reset with the draws of the pending flags and the LED register (R230). -/
  | reset (r : Pins) (l : Leds)
  /-- BOOT_CLK (R232). -/
  | bootClk
  /-- BOOT_SW_CFG (R233). -/
  | bootSwCfg
  /-- BOOT_LED_CFG (R234). -/
  | bootLedCfg
  /-- BOOT_BUZ (R235). -/
  | bootBuz
  /-- BOOT_GIE (R236). -/
  | bootGie
  /-- PIN_SET n, v: input pin n takes level v, 1 = released (R100). -/
  | pinSet (n : Pin) (v : Bool)
  /-- SVC_ENTER (R121). -/
  | svcEnter
  /-- SVC_CLEAR M: the clear mask is a draw (R122). -/
  | svcClear (m : Pins)
  /-- SVC_SNAP (R123). -/
  | svcSnap
  /-- SVC_REARM Q: the spurious-pending mask is a draw (R124). -/
  | svcRearm (q : Pins)
  /-- SVC_BTN1, PlayPause (R125). -/
  | svcBtn1
  /-- SVC_BTN2, GreenToggle (R126). -/
  | svcBtn2
  /-- SVC_BTN3, RedToggle (R127). -/
  | svcBtn3
  /-- SVC_BTN4, FlashToggle (R128). -/
  | svcBtn4
  /-- SVC_EXIT (R129). -/
  | svcExit
  /-- LOOP_SET_PERIOD T (R173). -/
  | loopSetPeriod (t : Period)
  /-- LOOP_READ_PLAY (R172). -/
  | loopReadPlay
  /-- LOOP_READ_FLASH (R176). -/
  | loopReadFlash
  /-- LOOP_FLASH_TGL M: the LED toggle mask, never 0b00 (R178, R82). -/
  | loopFlashTgl (m : Leds)
  /-- LOOP_DELAY (R174). -/
  | loopDelay
  deriving DecidableEq, Repr

/-- The agent column of R84's table. -/
def Instr.agent : Instr → Agent
  | .reset _ _ => .env
  | .bootClk => .loop
  | .bootSwCfg => .loop
  | .bootLedCfg => .loop
  | .bootBuz => .loop
  | .bootGie => .loop
  | .pinSet _ _ => .env
  | .svcEnter => .seq
  | .svcClear _ => .seq
  | .svcSnap => .seq
  | .svcRearm _ => .seq
  | .svcBtn1 => .seq
  | .svcBtn2 => .seq
  | .svcBtn3 => .seq
  | .svcBtn4 => .seq
  | .svcExit => .seq
  | .loopSetPeriod _ => .loop
  | .loopReadPlay => .loop
  | .loopReadFlash => .loop
  | .loopFlashTgl _ => .loop
  | .loopDelay => .loop

end Sys2Proof
end

