-- ==== Sys2Proof/Machine/State.lean ====
section
/-!
DEFINITION. The block's whole state (spec R21: one record, every field of 10_state.md), the two agents' positions (R40,
R45), the observable events (R49), the reasons a step can stop (R207), and the states at launch and right after reset
(R230). All of it is plain data.
-/

namespace Sys2Proof.Machine

/-- `svc`, the sequencer's position (R40). The codes 9 to 15 are never reached and have no constructor (I19, log entry 9). -/
inductive SvcPos where
  | idle
  | clr
  | snap
  | rearm
  | b1
  | b2
  | b3
  | b4
  | exit
  deriving DecidableEq, Repr

/-- One of the two LEDs, as the mask of one half of a split toggle: `fm` of R45 is 0b01 (Red) or 0b10 (Green). -/
inductive Led where
  | red
  | green
  deriving DecidableEq, Repr

/-- `lpc`, the LOOP agent's position: a phase with its argument (R45). -/
inductive LoopPos where
  | bootClk
  | bootSw
  | bootLed
  | bootBuz
  | bootGie
  | top
  | swpSet (k : Fin 32)
  | swpDly (k : Fin 32)
  | sil
  | fchk
  | ftglA
  | ftglB (fm : Led)
  | ftgl
  | fdly
  deriving DecidableEq, Repr

/-- The observable events (R49). -/
inductive Event where
  | tone (p : Period)
  | readPlay (v : Bool)
  | readFlash (v : Bool)
  | led (v : Leds)
  | mode (play flash : Bool)
  deriving DecidableEq, Repr

/-- The block's state record (R21). `cfg`, `started` and `trace` are the model's own: the parameters of R8, whether the
trace's first word is past (R231), and the operation words not yet taken (R80); log entries 1, 4 and 5. -/
structure State where
  /-- The machine's parameters (R8); no operation writes them. -/
  cfg : Config
  /-- The trace's first word, RESET, has been performed (R231). -/
  started : Bool
  /-- The operation words still to come, the next one first (R80). -/
  trace : List Word
  /-- Levels of the four input pins, 1 = released (R22, R23). -/
  lvl : Pins
  /-- BOOT_SW_CFG has configured the pins (R24). -/
  swcfg : Bool
  /-- Armed edge direction per pin, 1 = high-to-low (R26). -/
  sense : Pins
  /-- Pending-interrupt flag per pin (R27). -/
  pend : Pins
  /-- Interrupt enable per pin (R28). -/
  ie : Pins
  /-- Global interrupt enable (R29). -/
  gie : Bool
  /-- The "play" mode flag (R30). -/
  play : Bool
  /-- The "flash" mode flag (R31). -/
  flash : Bool
  /-- The LED output register, bit 0 Red, bit 1 Green, 1 = lit (R33). -/
  led : Leds
  /-- `led_oe`, the LED output enable (R34). -/
  ledOe : Bool
  /-- The sequencer's position (R40). -/
  svc : SvcPos
  /-- The pending flags SVC_ENTER observed, or `unset` (R41, R57). -/
  seen : Option Pins
  /-- The snapshot of the levels, or `unset` (R42, R57). -/
  snap : Option Pins
  /-- The loop's position (R45). -/
  lpc : LoopPos
  /-- The last period sent to the tone generator, or `unset` (R48). -/
  tone : Option Period
  /-- The observable events so far, oldest first (R49, log entry 11). -/
  events : List Event
  deriving DecidableEq, Repr

/-- Why the machine stops with a fault. -/
inductive Fault where
  /-- `Fault(unset_read)`: an operation read `seen` or `snap` while it holds `unset` (R57, R207). Raised by SVC_CLEAR,
  SVC_REARM and SVC_BTN1 to SVC_BTN4. The spec's own outcome, unreachable from RESET; safe. -/
  | unsetRead
  deriving DecidableEq, Repr

/-- Why a word is not a step of the block. -/
inductive Refusal where
  /-- No meaning for the instruction; raised by no arm of this model; safe. -/
  | notModelled (mnemonic : String)
  /-- `NotEnabled`: the word decodes and its guard fails, so the step does not exist (R207). Raised by every meaning whose
  guard is false. The spec's own outcome; safe. -/
  | notEnabled
  /-- `Invalid(w)`: the word spells no operation, and the trace is refused at it (R85, R207). Raised by the step. The
  spec's own outcome; safe. -/
  | invalid (w : Word)
  /-- The trace holds no further word, so nobody has said which agent moves next (log entry 6). Raised by the step; safe. -/
  | traceEnd
  deriving DecidableEq, Repr

/-- What a meaning answers. -/
abbrev Result := Host.Outcome State Fault Refusal

/-- The state before the first word of a trace (R22, R231): only RESET is enabled. The levels are LEVEL0; every other
field stands at R230's value already, and the two draws of RESET, not yet made, stand at 0, which nothing can observe
because RESET writes them (log entry 12). -/
def State.launch (cfg : Config) : State :=
  { cfg := cfg, started := false, trace := [], lvl := cfg.level0, swcfg := false, sense := 0b1111#4, pend := 0b0000#4,
    ie := 0b0000#4, gie := false, play := false, flash := false, led := 0b00#2, ledOe := false, svc := .idle,
    seen := none, snap := none, lpc := .bootClk, tone := none, events := [] }

/-- The machine right after reset (R230, R238): every field at the value R230 gives. R230 leaves three values open: the
draw R of the pending flags and the draw L of the LED register, both 0 here (log entry 3), and LEVEL0, all released here
(log entry 2); both DESIGN CHOICE, unsafe. -/
def State.reset : State :=
  { cfg := Config.default, started := true, trace := [], lvl := 0b1111#4, swcfg := false, sense := 0b1111#4,
    pend := 0b0000#4, ie := 0b0000#4, gie := false, play := false, flash := false, led := 0b00#2, ledOe := false,
    svc := .idle, seen := none, snap := none, lpc := .bootClk, tone := none, events := [] }

/-- Writes `started` and nothing else. -/
def State.setStarted (s : State) (v : Bool) : State := { s with started := v }

/-- Writes `trace` and nothing else. -/
def State.setTrace (s : State) (v : List Word) : State := { s with trace := v }

/-- Writes `lvl` and nothing else. -/
def State.setLvl (s : State) (v : Pins) : State := { s with lvl := v }

/-- Writes `swcfg` and nothing else. -/
def State.setSwcfg (s : State) (v : Bool) : State := { s with swcfg := v }

/-- Writes `sense` and nothing else. -/
def State.setSense (s : State) (v : Pins) : State := { s with sense := v }

/-- Writes `pend` and nothing else. -/
def State.setPend (s : State) (v : Pins) : State := { s with pend := v }

/-- Writes `ie` and nothing else. -/
def State.setIe (s : State) (v : Pins) : State := { s with ie := v }

/-- Writes `gie` and nothing else. -/
def State.setGie (s : State) (v : Bool) : State := { s with gie := v }

/-- Writes `play` and nothing else. -/
def State.setPlay (s : State) (v : Bool) : State := { s with play := v }

/-- Writes `flash` and nothing else. -/
def State.setFlash (s : State) (v : Bool) : State := { s with flash := v }

/-- Writes `led` and nothing else. -/
def State.setLed (s : State) (v : Leds) : State := { s with led := v }

/-- Writes `ledOe` and nothing else. -/
def State.setLedOe (s : State) (v : Bool) : State := { s with ledOe := v }

/-- Writes `svc` and nothing else. -/
def State.setSvc (s : State) (v : SvcPos) : State := { s with svc := v }

/-- Writes `seen` and nothing else. -/
def State.setSeen (s : State) (v : Option Pins) : State := { s with seen := v }

/-- Writes `snap` and nothing else. -/
def State.setSnap (s : State) (v : Option Pins) : State := { s with snap := v }

/-- Writes `lpc` and nothing else. -/
def State.setLpc (s : State) (v : LoopPos) : State := { s with lpc := v }

/-- Writes `tone` and nothing else. -/
def State.setTone (s : State) (v : Option Period) : State := { s with tone := v }

/-- Writes `events` and nothing else. -/
def State.setEvents (s : State) (v : List Event) : State := { s with events := v }

end Sys2Proof.Machine
end

