-- ==== Sys2Proof/Machine/Operands.lean ====
section
/-!
DEFINITION. The operand forms of the operations: single bits of a per-pin vector, the constraint each drawn operand must
meet (the clear mask of R122, the spurious-pending mask of R124, the period of R173, the toggle mask of R178), and the loop
position each admitted operand leads to.
-/

namespace Sys2Proof.Machine

/-- `v[i]`, bit i of a per-pin vector (R10). -/
def pinBit (v : Pins) (n : Pin) : Bool := v.getLsb n

/-- `v` with `v[n] <- b` (R11). -/
def setPinBit (v : Pins) (n : Pin) (b : Bool) : Pins :=
  if b then v ||| (1#4 <<< n.val) else v &&& ~~~(1#4 <<< n.val)

/-- `ClearOK(M, seen)`: the constraint `CLEAR_SCOPE` puts on SVC_CLEAR's mask (R122). -/
def clearOk (scope : ClearScope) (m seen : Pins) : Bool :=
  match scope with
  | .group => m == 0b1111#4
  | .observed => m == seen
  | .either => m &&& seen == seen

/-- `allowed`: the pins whose flag SVC_REARM's draw may set, under `SENSE_WRITE_PENDING` (R124); bit by bit, the sense
differs from the snapshot and, under `may`, the level does too. -/
def rearmAllowed (p : SenseWritePending) (sense snap lvl : Pins) : Pins :=
  match p with
  | .never => 0b0000#4
  | .may => (sense ^^^ snap) &&& (lvl ^^^ snap)
  | .any => sense ^^^ snap

/-- `(Q AND ~allowed) = 0` (R124). -/
def rearmOk (p : SenseWritePending) (q sense snap lvl : Pins) : Bool :=
  q &&& ~~~(rearmAllowed p sense snap lvl) == 0b0000#4

/-- `per(k)` as a number (R171): up from `PERIOD_MIN` for k = 0 to 15, down from `PERIOD_MAX` for k = 16 to 31. -/
def perNat (k : Nat) : Nat :=
  if k < Config.passLen then Config.periodMin + Config.periodStep * k
  else Config.periodMax - Config.periodStep * (k - Config.passLen)

/-- `per(k)` in the 12-bit field, which holds every value of it (R171). -/
def per (k : Fin 32) : Period := BitVec.ofNat 12 (perNat k.val)

/-- The 32 periods of a pass pair in order (R171, R181). -/
def sweepPeriods : List Period := (List.finRange 32).map per

/-- The mask that selects one LED: bit 0 Red, bit 1 Green (R33, R152). -/
def Led.mask : Led → Leds
  | .red => 0b01#2
  | .green => 0b10#2

/-- The LED a single-bit mask selects; none for 0b00 and 0b11. -/
def halfMask (m : Leds) : Option Led :=
  if m = 0b01#2 then some .red else if m = 0b10#2 then some .green else none

/-- Where LOOP_SET_PERIOD T leads from a position, and none where its guard does not accept T there (R173). -/
def setPeriodNext (p : LoopPos) (t : Period) : Option LoopPos :=
  match p with
  | .swpSet k => if t = per k then some (.swpDly k) else none
  | .sil => if t = Config.silence then some .fchk else none
  | _ => none

/-- Where LOOP_DELAY leads, and none where the position is no delay (R174). -/
def delayNext (p : LoopPos) : Option LoopPos :=
  match p with
  | .swpDly k => some (if h : k.val < 31 then .swpSet ⟨k.val + 1, by omega⟩ else .fchk)
  | .fdly => some .top
  | _ => none

/-- Where LOOP_FLASH_TGL M leads, and none where its guard does not accept M (R178). The guard reads the position alone;
which of the split and atomic positions a run can reach is settled at LOOP_READ_FLASH (DEDUCED, log entry 10). -/
def flashTglNext (p : LoopPos) (m : Leds) : Option LoopPos :=
  match p with
  | .ftglA => (halfMask m).map .ftglB
  | .ftglB fm => if m = 0b11#2 ^^^ fm.mask then some .fdly else none
  | .ftgl => if m = 0b11#2 then some .fdly else none
  | _ => none

/-- Where LOOP_READ_FLASH leads when it has read `flash` (R176, R177). -/
def readFlashNext (form : FlashToggleForm) (flash : Bool) : LoopPos :=
  if flash then
    match form with
    | .split => .ftglA
    | .atomic => .ftgl
  else .top

/-- Where LOOP_READ_PLAY leads when it has read `play` (R172). -/
def readPlayNext (play : Bool) : LoopPos := if play then .swpSet 0 else .sil

end Sys2Proof.Machine
end

