-- ==== Sys2Proof/Machine/Ops.lean ====
section
/-!
DEFINITION. The operations every meaning shares: `guard`, `emit` and the read of a field that may be `unset` (R11, R57),
the LED register's two primitives (R152, R153), the positions the agents' guards test (R203), the interrupt request with
service entry and return (R201, R121, R129), and the block's interface signals and register views (R32, R53, R150, R151).
The block has no memory (R60), so no operation over memory stands here.
-/

namespace Sys2Proof.Machine

/-- `guard c` (R11): if c is false the outcome is `NotEnabled` and there is no next state. -/
def guarded (c : Bool) (k : Result) : Result := if c then k else .refused .notEnabled

/-- Reads a field that may hold `unset`; reading `unset` is `Fault(unset_read)` (R57). -/
def readSet (field : Option Pins) (k : Pins → Result) : Result :=
  match field with
  | some v => k v
  | none => .fault .unsetRead

/-- Moves the loop to the position its operand leads to; where there is none the guard is false (R11). -/
def advanceLoop (target : Option LoopPos) (k : LoopPos → State) : Result :=
  match target with
  | some p => .next (k p)
  | none => .refused .notEnabled

/-- `emit e` (R11, R49): appends one observable event. -/
def State.emit (s : State) (e : Event) : State := s.setEvents (s.events ++ [e])

/-- LedXor(m): inverts the LEDs that m selects and emits the new value (R152). -/
def State.ledXor (s : State) (m : Leds) : State :=
  let v := s.led ^^^ m
  (s.setLed v).emit (.led v)

/-- LedClr(m): switches off the LEDs that m selects and emits the new value (R153). -/
def State.ledClr (s : State) (m : Leds) : State :=
  let v := s.led &&& ~~~m
  (s.setLed v).emit (.led v)

/-- The sequencer stands at `p`, in a run whose first word is past (R40, R231). -/
def State.seqAt (s : State) (p : SvcPos) : Bool := s.started && s.svc == p

/-- LOOP is not preempted: `svc = IDLE` (R203), in a run whose first word is past (R231). -/
def State.loopFree (s : State) : Bool := s.started && s.svc == .idle

/-- LOOP is not preempted and stands at `p`. -/
def State.loopAt (s : State) (p : LoopPos) : Bool := s.loopFree && s.lpc == p

/-- `req(s)`, the service request (R201). -/
def State.req (s : State) : Bool := s.gie && (s.pend &&& s.ie) != 0b0000#4 && s.svc == .idle

/-- Service entry (R121, R202): the observed flags go to `seen` and the sequencer to CLR. Nothing is saved, and neither
`pend`, `gie` nor the loop's position changes. -/
def State.enterService (s : State) : State := (s.setSeen (some (s.pend &&& s.ie))).setSvc .clr

/-- Return from service (R129, R206): the sequencer goes to IDLE and nothing is restored. -/
def State.leaveService (s : State) : State := s.setSvc .idle

/-- The 4-bit code of the sequencer's position (R40). -/
def SvcPos.code : SvcPos → BitVec 4
  | .idle => 0
  | .clr => 1
  | .snap => 2
  | .rearm => 3
  | .b1 => 4
  | .b2 => 5
  | .b3 => 6
  | .b4 => 7
  | .exit => 8

/-- The code of the loop's phase; its argument stands beside it (R45). -/
def LoopPos.code : LoopPos → Nat
  | .bootClk => 0
  | .bootSw => 1
  | .bootLed => 2
  | .bootBuz => 3
  | .bootGie => 4
  | .top => 5
  | .swpSet _ => 6
  | .swpDly _ => 7
  | .sil => 8
  | .fchk => 9
  | .ftglA => 10
  | .ftglB _ => 11
  | .ftgl => 12
  | .fdly => 13

/-- The BOOT phases, codes 0 to 4 (R45, R58). -/
def LoopPos.isBoot (p : LoopPos) : Bool := p.code ≤ 4

/-- The register view MODE: `MODE[0] = play`, `MODE[1] = flash` (R32). -/
def State.mode (s : State) : BitVec 2 := BitVec.ofBool s.flash ++ BitVec.ofBool s.play

/-- The two write ports of the LED register (R150). -/
inductive LedPort where
  | seq
  | loop
  deriving DecidableEq, Repr

/-- The port select, `svc != IDLE` (R150). -/
def State.ledPort (s : State) : LedPort := if s.svc = .idle then .loop else .seq

/-- The block's output signals (R53). `ledOut` is none while the LED pins are not driven (R151). -/
structure Outputs where
  playO : Bool
  flashO : Bool
  ledOut : Option Leds
  svcReq : Bool
  svcBusy : Bool
  deriving DecidableEq, Repr

/-- The output signals of a state (R53, R151, R201, R203). -/
def State.outputs (s : State) : Outputs :=
  { playO := s.play
    flashO := s.flash
    ledOut := if s.ledOe then some s.led else none
    svcReq := s.req
    svcBusy := s.svc != .idle }

/-- The input signals while an operation is performed (R53). `swChange` is no signal of its own: it names the change of
`swIn` that the operation stands for, since a change of `sw_in` is a PIN_SET step (log entry 20). -/
structure Inputs where
  /-- `sw_in`, the levels of the four switches. -/
  swIn : Pins
  swChange : Option (Pin × Bool)
  rst : Bool
  cfgSw : Bool
  cfgLed : Bool
  gieSet : Bool
  loopTgl : Leds
  deriving DecidableEq, Repr

/-- The switches at these levels, no change of one, and no strobe. -/
def Inputs.quiet (levels : Pins) : Inputs :=
  { swIn := levels, swChange := none, rst := false, cfgSw := false, cfgLed := false, gieSet := false, loopTgl := 0b00#2 }

/-- The input signals each operation stands for in a state (R53): PIN_SET drives the switches, the sequencer's operations
and the loop's reads leave them at the levels they have and drive no strobe. -/
def inputsOf (i : Instr) (s : State) : Inputs :=
  match i with
  | .reset _ _ => { Inputs.quiet s.lvl with rst := true }
  | .bootClk => Inputs.quiet s.lvl
  | .bootSwCfg => { Inputs.quiet s.lvl with cfgSw := true }
  | .bootLedCfg => { Inputs.quiet s.lvl with cfgLed := true }
  | .bootBuz => Inputs.quiet s.lvl
  | .bootGie => { Inputs.quiet s.lvl with gieSet := true }
  | .pinSet n v => { Inputs.quiet (setPinBit s.lvl n v) with swChange := some (n, v) }
  | .svcEnter => Inputs.quiet s.lvl
  | .svcClear _ => Inputs.quiet s.lvl
  | .svcSnap => Inputs.quiet s.lvl
  | .svcRearm _ => Inputs.quiet s.lvl
  | .svcBtn1 => Inputs.quiet s.lvl
  | .svcBtn2 => Inputs.quiet s.lvl
  | .svcBtn3 => Inputs.quiet s.lvl
  | .svcBtn4 => Inputs.quiet s.lvl
  | .svcExit => Inputs.quiet s.lvl
  | .loopSetPeriod _ => Inputs.quiet s.lvl
  | .loopReadPlay => Inputs.quiet s.lvl
  | .loopReadFlash => Inputs.quiet s.lvl
  | .loopFlashTgl m => { Inputs.quiet s.lvl with loopTgl := m }
  | .loopDelay => Inputs.quiet s.lvl

end Sys2Proof.Machine
end

