-- ==== Sys2Proof/Machine/Flags.lean ====
section
/-!
DEFINITION. The status flags of R50: `pend` with the edge latch that sets it (R101), and the mode flags `play` and `flash`
with their inversions (R125, R128). Every write of a mode flag emits the new mode (R49).
-/

namespace Sys2Proof.Machine

/-- Does a change of a pin from `old` to `v` go in the direction `sense` arms (R101, R106)? -/
def armedEdge (sense old v : Bool) : Bool :=
  let falling := old && !v
  let rising := !old && v
  (falling && sense) || (rising && !sense)

/-- EdgeLatch(n, old, v): sets `pend[n]` on an edge in the armed direction, whatever `ie`, `gie`, `swcfg` and `svc` are
(R101, R102). -/
def State.edgeLatch (s : State) (n : Pin) (old v : Bool) : State :=
  if armedEdge (pinBit s.sense n) old v then s.setPend (setPinBit s.pend n true) else s

/-- The level of pin n becomes v, and a change of it is latched in the same step (R100). -/
def State.drivePin (s : State) (n : Pin) (v : Bool) : State :=
  let old := pinBit s.lvl n
  let s1 := s.setLvl (setPinBit s.lvl n v)
  if old != v then s1.edgeLatch n old v else s1

/-- `pend <- pend AND ~M` (R122). -/
def State.clearPend (s : State) (m : Pins) : State := s.setPend (s.pend &&& ~~~m)

/-- `pend <- pend OR Q` (R124). -/
def State.raisePend (s : State) (q : Pins) : State := s.setPend (s.pend ||| q)

/-- Emits the mode flags' new value (R49). -/
def State.emitMode (s : State) : State := s.emit (.mode s.play s.flash)

/-- `play <- NOT play`, with its event (R125). -/
def State.invertPlay (s : State) : State := (s.setPlay (!s.play)).emitMode

/-- `flash <- NOT flash`, with its event (R128). -/
def State.invertFlash (s : State) : State := (s.setFlash (!s.flash)).emitMode

end Sys2Proof.Machine
end

