-- ==== Sys2Proof/Machine/Boot.lean ====
section
/-!
DEFINITION. The meanings of RESET (R230, R231) and of the five boot operations of the LOOP agent (R232 to R236).
-/

namespace Sys2Proof.Machine

/-- RESET R, L (R230): every field takes its reset value, `pend` the draw R, `led` the draw L, and `lvl` the launch
value LEVEL0. It is admitted only as the first word of a trace (R231). -/
def execReset (r : Pins) (l : Leds) (s : State) : Result :=
  guarded (!s.started)
    (.next
      { s with
        started := true
        lvl := s.cfg.level0
        swcfg := false
        sense := 0b1111#4
        pend := r
        ie := 0b0000#4
        gie := false
        play := false
        flash := false
        led := l
        ledOe := false
        svc := .idle
        seen := none
        snap := none
        lpc := .bootClk
        tone := none
        events := [] })

/-- BOOT_CLK (R232): the clocks are out of scope, so only the loop's position moves. -/
def execBootClk (s : State) : Result := guarded (s.loopAt .bootClk) (.next (s.setLpc .bootSw))

/-- BOOT_SW_CFG (R233): all pins enabled and armed high-to-low; `pend` is not cleared. -/
def execBootSwCfg (s : State) : Result :=
  guarded (s.loopAt .bootSw)
    (.next ((((s.setIe 0b1111#4).setSense 0b1111#4).setSwcfg true).setLpc .bootLed))

/-- BOOT_LED_CFG (R234): the LED pins become outputs; `led` keeps its value. -/
def execBootLedCfg (s : State) : Result :=
  guarded (s.loopAt .bootLed) (.next ((s.setLedOe true).setLpc .bootBuz))

/-- BOOT_BUZ (R235): the tone generator is opaque, and `tone` stays as it is. -/
def execBootBuz (s : State) : Result := guarded (s.loopAt .bootBuz) (.next (s.setLpc .bootGie))

/-- BOOT_GIE (R236): interrupts are globally enabled, for good. -/
def execBootGie (s : State) : Result :=
  guarded (s.loopAt .bootGie) (.next ((s.setGie true).setLpc .top))

end Sys2Proof.Machine
end

