-- ==== Sys2Proof/Machine/Loop.lean ====
section
/-!
DEFINITION. The meanings of the LOOP agent's operations after boot (R170 to R178). Each needs `svc = IDLE` (R203).
-/

namespace Sys2Proof.Machine

/-- LOOP_SET_PERIOD T (R173): one command to the tone generator, at the period the position calls for. -/
def execLoopSetPeriod (t : Period) (s : State) : Result :=
  guarded s.loopFree
    (advanceLoop (setPeriodNext s.lpc t) fun p => ((s.setTone (some t)).emit (.tone t)).setLpc p)

/-- LOOP_READ_PLAY (R172): the one point where the loop observes `play`. -/
def execLoopReadPlay (s : State) : Result :=
  guarded (s.loopAt .top) (.next ((s.emit (.readPlay s.play)).setLpc (readPlayNext s.play)))

/-- LOOP_READ_FLASH (R176): the one point where the loop observes `flash`. -/
def execLoopReadFlash (s : State) : Result :=
  guarded (s.loopAt .fchk)
    (.next ((s.emit (.readFlash s.flash)).setLpc (readFlashNext s.cfg.flashToggleForm s.flash)))

/-- LOOP_FLASH_TGL M (R178): the loop's LED toggle, whole or one half of it; `flash` is not read again. -/
def execLoopFlashTgl (m : Leds) (s : State) : Result :=
  guarded s.loopFree (advanceLoop (flashTglNext s.lpc m) fun p => (s.ledXor m).setLpc p)

/-- LOOP_DELAY (R174): one busy-wait of no modelled length (R9); nothing is read but the position. -/
def execLoopDelay (s : State) : Result :=
  guarded s.loopFree (advanceLoop (delayNext s.lpc) fun p => s.setLpc p)

end Sys2Proof.Machine
end

