-- ==== Sys2Proof/Machine/Pins.lean ====
section
/-!
DEFINITION. The meaning of PIN_SET, the one operation of the ENV agent after RESET (R100 to R106).
-/

namespace Sys2Proof.Machine

/-- PIN_SET n, v (R100): enabled in every state after RESET, during a service and during boot too. -/
def execPinSet (n : Pin) (v : Bool) (s : State) : Result := guarded s.started (.next (s.drivePin n v))

end Sys2Proof.Machine
end

