-- ==== Sys2Proof/Machine/Service.lean ====
section
/-!
DEFINITION. The meanings of the nine micro-steps of a service (R121 to R129). Each tests its position first and reads a
field that may be `unset` only there (log entry 8).
-/

namespace Sys2Proof.Machine

/-- SVC_ENTER (R121): the service starts when the request of R201 holds. -/
def execSvcEnter (s : State) : Result := guarded (s.started && s.req) (.next s.enterService)

/-- SVC_CLEAR M (R122): clears the flags of a mask that `CLEAR_SCOPE` accepts. -/
def execSvcClear (m : Pins) (s : State) : Result :=
  guarded (s.seqAt .clr)
    (readSet s.seen fun seen =>
      guarded (clearOk s.cfg.clearScope m seen) (.next ((s.clearPend m).setSvc .snap)))

/-- SVC_SNAP (R123): the levels of all four pins at once. -/
def execSvcSnap (s : State) : Result :=
  guarded (s.seqAt .snap) (.next ((s.setSnap (some s.lvl)).setSvc .rearm))

/-- SVC_REARM Q (R124): every pin is armed from its snapshot level, and the draw may set flags that
`SENSE_WRITE_PENDING` allows. -/
def execSvcRearm (q : Pins) (s : State) : Result :=
  guarded (s.seqAt .rearm)
    (readSet s.snap fun snap =>
      guarded (rearmOk s.cfg.senseWritePending q s.sense snap s.lvl)
        (.next (((s.setSense snap).raisePend q).setSvc .b1)))

/-- The shape of the four button steps: at its position, the effect is applied when the button's snapshot bit is 0, and
the sequencer moves on (R125 to R128, R130). -/
def buttonStep (at_ : SvcPos) (n : Pin) (effect : State → State) (after : SvcPos) (s : State) : Result :=
  guarded (s.seqAt at_)
    (readSet s.snap fun snap =>
      .next ((if pinBit snap n then s else effect s).setSvc after))

/-- Button 4's effect: `flash` is inverted, and both LEDs go off when it becomes 0 (R128). -/
def State.toggleFlash (s : State) : State :=
  let t := s.invertFlash
  if t.flash then t else t.ledClr 0b11#2

/-- SVC_BTN1, PlayPause: inverts `play` (R125). -/
def execSvcBtn1 (s : State) : Result := buttonStep .b1 0 State.invertPlay .b2 s

/-- SVC_BTN2, GreenToggle: inverts `led[1]` (R126). -/
def execSvcBtn2 (s : State) : Result := buttonStep .b2 1 (fun t => t.ledXor 0b10#2) .b3 s

/-- SVC_BTN3, RedToggle: inverts `led[0]` (R127). -/
def execSvcBtn3 (s : State) : Result := buttonStep .b3 2 (fun t => t.ledXor 0b01#2) .b4 s

/-- SVC_BTN4, FlashToggle: inverts `flash` and forces both LEDs off when it stops (R128). -/
def execSvcBtn4 (s : State) : Result := buttonStep .b4 3 State.toggleFlash .exit s

/-- SVC_EXIT (R129): the service ends; `seen` and `snap` keep their values. -/
def execSvcExit (s : State) : Result := guarded (s.seqAt .exit) (.next s.leaveService)

end Sys2Proof.Machine
end

