-- ==== Sys2Proof/Machine/Dispatch.lean ====
section
/-!
DEFINITION. One arm per operation of the opcode table.
-/

namespace Sys2Proof.Machine

def exec (i : Instr) (s : State) : Host.Outcome State Fault Refusal :=
  match i with
  | .reset r l => Sys2Proof.Machine.execReset r l s
  | .bootClk => Sys2Proof.Machine.execBootClk s
  | .bootSwCfg => Sys2Proof.Machine.execBootSwCfg s
  | .bootLedCfg => Sys2Proof.Machine.execBootLedCfg s
  | .bootBuz => Sys2Proof.Machine.execBootBuz s
  | .bootGie => Sys2Proof.Machine.execBootGie s
  | .pinSet n v => Sys2Proof.Machine.execPinSet n v s
  | .svcEnter => Sys2Proof.Machine.execSvcEnter s
  | .svcClear m => Sys2Proof.Machine.execSvcClear m s
  | .svcSnap => Sys2Proof.Machine.execSvcSnap s
  | .svcRearm q => Sys2Proof.Machine.execSvcRearm q s
  | .svcBtn1 => Sys2Proof.Machine.execSvcBtn1 s
  | .svcBtn2 => Sys2Proof.Machine.execSvcBtn2 s
  | .svcBtn3 => Sys2Proof.Machine.execSvcBtn3 s
  | .svcBtn4 => Sys2Proof.Machine.execSvcBtn4 s
  | .svcExit => Sys2Proof.Machine.execSvcExit s
  | .loopSetPeriod t => Sys2Proof.Machine.execLoopSetPeriod t s
  | .loopReadPlay => Sys2Proof.Machine.execLoopReadPlay s
  | .loopReadFlash => Sys2Proof.Machine.execLoopReadFlash s
  | .loopFlashTgl m => Sys2Proof.Machine.execLoopFlashTgl m s
  | .loopDelay => Sys2Proof.Machine.execLoopDelay s

end Sys2Proof.Machine
end

