-- ==== Sys2Proof/WellFormed.lean ====
section
/-!
DEFINITION. Which terms of `Instr` spell an operation. The operand types carry every width of R82, so the one check left is
the reserved mask of LOOP_FLASH_TGL (R82, R85).
-/

namespace Sys2Proof

/-- `M = 0b00` is reserved in LOOP_FLASH_TGL (R82, R85); every other term is an operation. -/
def Instr.wellFormed : Instr → Bool
  | .reset _ _ => true
  | .bootClk => true
  | .bootSwCfg => true
  | .bootLedCfg => true
  | .bootBuz => true
  | .bootGie => true
  | .pinSet _ _ => true
  | .svcEnter => true
  | .svcClear _ => true
  | .svcSnap => true
  | .svcRearm _ => true
  | .svcBtn1 => true
  | .svcBtn2 => true
  | .svcBtn3 => true
  | .svcBtn4 => true
  | .svcExit => true
  | .loopSetPeriod _ => true
  | .loopReadPlay => true
  | .loopReadFlash => true
  | .loopFlashTgl m => m != 0b00#2
  | .loopDelay => true

/-- The check as a proposition that `decide` can run on. -/
abbrev Instr.WellFormed (i : Instr) : Prop := i.wellFormed = true

end Sys2Proof
end

