-- ==== Sys2Proof/Decode.lean ====
section
/-!
DEFINITION. The operation words: the opcode table of spec R84 as a list of rows, the decoder over it (total on every word
and on every list of bytes, refusing by name), the encoder of R81 and R82, and the byte form of a trace (R61).
-/

namespace Sys2Proof

/-- One row of R84's opcode map: `match` and `mask` as the table prints them, and the operands the row's letters spell. -/
structure OpcodeRow where
  mnemonic : String
  pat : Word
  mask : Word
  build : Word → Instr

/-- `w` selects a row when `(w AND mask) = match` (R84). -/
def OpcodeRow.selects (r : OpcodeRow) (w : Word) : Bool := w &&& r.mask == r.pat

/-- Reset and boot rows, class 0x0 (R84). -/
def bootRows : List OpcodeRow := [
  ⟨"RESET", 0x0000, 0xFFC0, fun w => .reset (w.extractLsb' 0 4) (w.extractLsb' 4 2)⟩,
  ⟨"BOOT_CLK", 0x0100, 0xFFFF, fun _ => .bootClk⟩,
  ⟨"BOOT_SW_CFG", 0x0200, 0xFFFF, fun _ => .bootSwCfg⟩,
  ⟨"BOOT_LED_CFG", 0x0300, 0xFFFF, fun _ => .bootLedCfg⟩,
  ⟨"BOOT_BUZ", 0x0400, 0xFFFF, fun _ => .bootBuz⟩,
  ⟨"BOOT_GIE", 0x0500, 0xFFFF, fun _ => .bootGie⟩]

/-- The environment row, class 0x1 (R84). -/
def envRows : List OpcodeRow := [
  ⟨"PIN_SET", 0x1000, 0xFFEC, fun w => .pinSet (w.extractLsb' 0 2).toFin (w.getLsbD 4)⟩]

/-- Sequencer rows, class 0x2 (R84). -/
def seqRows : List OpcodeRow := [
  ⟨"SVC_ENTER", 0x2000, 0xFFFF, fun _ => .svcEnter⟩,
  ⟨"SVC_CLEAR", 0x2100, 0xFFF0, fun w => .svcClear (w.extractLsb' 0 4)⟩,
  ⟨"SVC_SNAP", 0x2200, 0xFFFF, fun _ => .svcSnap⟩,
  ⟨"SVC_REARM", 0x2300, 0xFFF0, fun w => .svcRearm (w.extractLsb' 0 4)⟩,
  ⟨"SVC_BTN1", 0x2400, 0xFFFF, fun _ => .svcBtn1⟩,
  ⟨"SVC_BTN2", 0x2500, 0xFFFF, fun _ => .svcBtn2⟩,
  ⟨"SVC_BTN3", 0x2600, 0xFFFF, fun _ => .svcBtn3⟩,
  ⟨"SVC_BTN4", 0x2700, 0xFFFF, fun _ => .svcBtn4⟩,
  ⟨"SVC_EXIT", 0x2800, 0xFFFF, fun _ => .svcExit⟩]

/-- Loop rows, classes 0x3 and 0x4 (R84). -/
def loopRows : List OpcodeRow := [
  ⟨"LOOP_SET_PERIOD", 0x3000, 0xF000, fun w => .loopSetPeriod (w.extractLsb' 0 12)⟩,
  ⟨"LOOP_READ_PLAY", 0x4000, 0xFFFF, fun _ => .loopReadPlay⟩,
  ⟨"LOOP_READ_FLASH", 0x4100, 0xFFFF, fun _ => .loopReadFlash⟩,
  ⟨"LOOP_FLASH_TGL", 0x4200, 0xFFFC, fun w => .loopFlashTgl (w.extractLsb' 0 2)⟩,
  ⟨"LOOP_DELAY", 0x4300, 0xFFFF, fun _ => .loopDelay⟩]

/-- The complete opcode map, in the table's order (R84). -/
def opcodeRows : List OpcodeRow := bootRows ++ envRows ++ seqRows ++ loopRows

/-- What a word spells: an operation, or nothing (`Invalid(w)`, R85, R86). -/
inductive Decoded where
  | op (i : Instr)
  | invalid (w : Word)
  deriving DecidableEq, Repr

/-- R84, R86: the row the word selects, with its field values; LOOP_FLASH_TGL also needs `M != 0b00` (R85).
Decoding reads nothing but the word. -/
def decode (w : Word) : Decoded :=
  match opcodeRows.find? (fun r => r.selects w) with
  | some r => if (r.build w).wellFormed then .op (r.build w) else .invalid w
  | none => .invalid w

/-- The word of an operation (R81, R82, R84): each line is the row's pattern, most significant bit first, with the operands
in the places of its letters. -/
def encode : Instr → Word
  | .reset r l => 0b0000000000#10 ++ l ++ r
  | .bootClk => 0b0000000100000000#16
  | .bootSwCfg => 0b0000001000000000#16
  | .bootLedCfg => 0b0000001100000000#16
  | .bootBuz => 0b0000010000000000#16
  | .bootGie => 0b0000010100000000#16
  | .pinSet n v => 0b00010000000#11 ++ BitVec.ofBool v ++ 0b00#2 ++ BitVec.ofFin (w := 2) n
  | .svcEnter => 0b0010000000000000#16
  | .svcClear m => 0b001000010000#12 ++ m
  | .svcSnap => 0b0010001000000000#16
  | .svcRearm q => 0b001000110000#12 ++ q
  | .svcBtn1 => 0b0010010000000000#16
  | .svcBtn2 => 0b0010010100000000#16
  | .svcBtn3 => 0b0010011000000000#16
  | .svcBtn4 => 0b0010011100000000#16
  | .svcExit => 0b0010100000000000#16
  | .loopSetPeriod t => 0b0011#4 ++ t
  | .loopReadPlay => 0b0100000000000000#16
  | .loopReadFlash => 0b0100000100000000#16
  | .loopFlashTgl m => 0b01000010000000#14 ++ m
  | .loopDelay => 0b0100001100000000#16

/-- The mnemonic of an operation (R84). -/
def mnemonicOf : Instr → String
  | .reset _ _ => "RESET"
  | .bootClk => "BOOT_CLK"
  | .bootSwCfg => "BOOT_SW_CFG"
  | .bootLedCfg => "BOOT_LED_CFG"
  | .bootBuz => "BOOT_BUZ"
  | .bootGie => "BOOT_GIE"
  | .pinSet _ _ => "PIN_SET"
  | .svcEnter => "SVC_ENTER"
  | .svcClear _ => "SVC_CLEAR"
  | .svcSnap => "SVC_SNAP"
  | .svcRearm _ => "SVC_REARM"
  | .svcBtn1 => "SVC_BTN1"
  | .svcBtn2 => "SVC_BTN2"
  | .svcBtn3 => "SVC_BTN3"
  | .svcBtn4 => "SVC_BTN4"
  | .svcExit => "SVC_EXIT"
  | .loopSetPeriod _ => "LOOP_SET_PERIOD"
  | .loopReadPlay => "LOOP_READ_PLAY"
  | .loopReadFlash => "LOOP_READ_FLASH"
  | .loopFlashTgl _ => "LOOP_FLASH_TGL"
  | .loopDelay => "LOOP_DELAY"

/-- The words R85 lists as spelling no operation, clause by clause: reserved classes, reserved `fn` values of a class,
reserved `arg` bits set, and 0x4200. -/
def reservedWord (w : Word) : Bool :=
  let cls : Nat := (w.extractLsb' 12 4).toNat
  let fn : Nat := (w.extractLsb' 8 4).toNat
  let arg : Byte := w.extractLsb' 0 8
  decide (5 ≤ cls)
    || (cls == 0 && decide (6 ≤ fn))
    || (cls == 1 && decide (1 ≤ fn))
    || (cls == 2 && decide (9 ≤ fn))
    || (cls == 4 && decide (4 ≤ fn))
    || ((cls == 0 || cls == 1 || cls == 2 || cls == 4) && (arg &&& reservedArgBits cls fn != 0))
    || (cls == 4 && fn == 2 && arg.extractLsb' 0 2 == 0b00#2)
where
  /-- The `arg` bits R82 names for no sub-field of the operation, which must be 0 (R81). -/
  reservedArgBits (cls fn : Nat) : Byte :=
    if cls = 0 ∧ fn = 0 then 0b11000000#8
    else if cls = 1 ∧ fn = 0 then 0b11101100#8
    else if cls = 2 ∧ (fn = 1 ∨ fn = 3) then 0b11110000#8
    else if cls = 4 ∧ fn = 2 then 0b11111100#8
    else 0b11111111#8

/-- A word as two bytes, most significant byte first (R61). -/
def wordBytes (w : Word) : List Byte := [w.extractLsb' 8 8, w.extractLsb' 0 8]

/-- The word two bytes of a serialized trace hold, most significant byte first (R61). -/
def wordOfBytes (hi lo : Byte) : Word := hi ++ lo

/-- A trace serialized to bytes: words in trace order (R61). -/
def traceBytes (ws : List Word) : List Byte := ws.flatMap wordBytes

/-- The trace a list of bytes holds; a byte left over at the end belongs to no word, so such a list is no trace
(log entry 17, safe). -/
def traceOfBytes : List Byte → Option (List Word)
  | [] => some []
  | [_] => none
  | hi :: lo :: rest => (traceOfBytes rest).map (wordOfBytes hi lo :: ·)

/-- What a decoder finds at the front of a list of bytes: a word's decoding and the bytes after it, or no whole word. -/
inductive BytesDecoded where
  | word (d : Decoded) (rest : List Byte)
  | truncated (left : List Byte)
  deriving DecidableEq, Repr

/-- Decoding on any bytes: every operation is two bytes long (R80), most significant first (R61). -/
def decodeBytes : List Byte → BytesDecoded
  | hi :: lo :: rest => .word (decode (wordOfBytes hi lo)) rest
  | left => .truncated left

/-- The word whose bits, numbered as spec/opcode_table.json numbers them (bit 0 the least significant), are the low
`nbits` bits of `w`; every bit above is 0 (log entry 18). -/
def tableWord (nbits w : Nat) : Word := BitVec.ofNat 16 (w % 2 ^ nbits)

/-- The instruction the decoder reads from the word a table row spells, laid out as a trace stores it (R61). -/
def decodeTableWord (nbits w : Nat) : Option Instr :=
  match decodeBytes (wordBytes (tableWord nbits w)) with
  | .word (.op i) _ => some i
  | .word (.invalid _) _ => none
  | .truncated _ => none

end Sys2Proof
end

