-- ==== Sys2Proof/Machine/Fetch.lean ====
section
/-!
DEFINITION. Where a step finds its operation. The block has no instruction memory (R70): a run is a trace of operation words
(R80), and the next word says which agent steps and resolves its draws (R83). The words still to come stand in
`State.trace` (log entry 5).
-/

namespace Sys2Proof.Machine

/-- The next operation word, and the state with it taken from the trace. -/
def fetch (s : State) : Option (Word × State) :=
  match s.trace with
  | w :: rest => some (w, s.setTrace rest)
  | [] => none

/-- The state with `w` as the next operation word, before the words it already held. -/
def State.pushWord (s : State) (w : Word) : State := s.setTrace (w :: s.trace)

end Sys2Proof.Machine
end

