-- ==== Sys2Proof/Machine/Step.lean ====
section
/-!
DEFINITION. One step of the block: the next operation word is taken from the trace, decoded, and performed (R12, R83, R207).
-/

namespace Sys2Proof.Machine

/-- R207: a word that spells no operation refuses the trace, and a word that does has its operation's outcome. With no
word left nobody has said who moves, and the step is refused by a name of its own (log entry 6). -/
def step (s : State) : Host.Outcome State Fault Refusal :=
  match fetch s with
  | some (w, t) =>
    match decode w with
    | .op i => exec i t
    | .invalid w => .refused (.invalid w)
  | none => .refused .traceEnd

/-- `s` with the instruction of a table row, numbered as the table numbers its bits, as the next operation word. -/
def State.withFetchWord (s : State) (nbits w : Nat) : State := s.pushWord (tableWord nbits w)

end Sys2Proof.Machine
end

