-- ==== Sys2Proof/Machine/Run.lean ====
section
/-!
DEFINITION. Runs: a list of operations, or of operation words, performed one after another (R11, R67, R80, R207).
-/

namespace Sys2Proof.Machine

/-- Goes on from a result that is a next state; a fault or a refusal ends the run (R207). -/
def Result.andThen (r : Result) (k : State → Result) : Result :=
  match r with
  | .next s => k s
  | .fault f => .fault f
  | .refused q => .refused q

/-- The operations of a list, in order, each from the state the one before left (R67). -/
def execAll : List Instr → State → Result
  | [], s => .next s
  | i :: is, s => Result.andThen (exec i s) (execAll is)

/-- One operation word applied to a state (R207). -/
def execWord (w : Word) (s : State) : Result :=
  match decode w with
  | .op i => exec i s
  | .invalid w => .refused (.invalid w)

/-- A trace of operation words applied to a state; it is a run when the result is a next state (R80, R207). -/
def execWords : List Word → State → Result
  | [], s => .next s
  | w :: ws, s => Result.andThen (execWord w s) (execWords ws)

/-- The trace is a run of the block with these parameters, from launch (R207, R231). A list of no words, of which R80 says
nothing, counts as the run of no steps (DESIGN CHOICE, log entry 22). -/
def isRun (cfg : Config) (ws : List Word) : Bool :=
  match execWords ws (State.launch cfg) with
  | .next _ => true
  | .fault _ => false
  | .refused _ => false

/-- The operations of one agent in a list, in order. -/
def opsOf (a : Agent) (ops : List Instr) : List Instr := ops.filter fun i => i.agent = a

end Sys2Proof.Machine
end

