-- ==== Sys2Proof/Machine/Asm.lean ====
section
/-!
DEFINITION. The trace assembly syntax of R87, read and printed, and the pseudo-operations of R88 with their expansions
and the condition one of them has.
Where R87 is silent on layout (spaces, letter case, empty lines) log entry 16 says what is accepted.
-/

namespace Sys2Proof.Machine

/-- The pseudo-operations (R88). PRESS and RELEASE carry the pin, which is the button's number less one. -/
inductive Pseudo where
  | press (n : Pin)
  | release (n : Pin)
  | service (m q : Pins)
  | boot
  | sweep
  | quietIter
  /-- The split form, with the LED of its first half. -/
  | flashTick (a : Led)
  /-- The atomic form. -/
  | flashTickAtomic
  deriving DecidableEq, Repr

/-- The lines a pseudo-operation stands for (R88). An expansion is textual: each line must still be enabled when it is
reached, and other agents' operations may come between. -/
def Pseudo.expand : Pseudo → List Instr
  | .press n => [.pinSet n false]
  | .release n => [.pinSet n true]
  | .service m q =>
    [.svcEnter, .svcClear m, .svcSnap, .svcRearm q, .svcBtn1, .svcBtn2, .svcBtn3, .svcBtn4, .svcExit]
  | .boot => [.bootClk, .bootSwCfg, .bootLedCfg, .bootBuz, .bootGie]
  | .sweep => sweepPeriods.flatMap fun t => [.loopSetPeriod t, .loopDelay]
  | .quietIter => [.loopReadPlay, .loopSetPeriod Config.silence, .loopReadFlash]
  | .flashTick a => [.loopFlashTgl a.mask, .loopFlashTgl (0b11#2 ^^^ a.mask), .loopDelay]
  | .flashTickAtomic => [.loopFlashTgl 0b11#2, .loopDelay]

/-- The agent whose lines a pseudo-operation stands for (R84, R88). -/
def Pseudo.agent : Pseudo → Agent
  | .press _ => .env
  | .release _ => .env
  | .service _ _ => .seq
  | .boot => .loop
  | .sweep => .loop
  | .quietIter => .loop
  | .flashTick _ => .loop
  | .flashTickAtomic => .loop

/-- When a pseudo-operation is enabled, beyond the guards of its lines: QUIET_ITER only when `play = 0` and `flash = 0`, the
others without a condition (R88). It is tested where the first line is performed (DEDUCED, log entry 21). -/
def Pseudo.condition (p : Pseudo) (s : State) : Bool :=
  match p with
  | .press _ => true
  | .release _ => true
  | .service _ _ => true
  | .boot => true
  | .sweep => true
  | .quietIter => !s.play && !s.flash
  | .flashTick _ => true
  | .flashTickAtomic => true

/-- The operations are the pseudo-operation's lines in order, beginning with its first, and other agents' operations may
stand between and after them (R88). -/
def Pseudo.spelledBy (p : Pseudo) (ops : List Instr) : Bool :=
  ops.head? == p.expand.head? && opsOf p.agent ops == p.expand

/-- A pseudo-operation performed as these operations: `NotEnabled` where its condition fails or the operations are not its
lines, and else what the operations do, each of them still under its own guard (R88). -/
def Pseudo.perform (p : Pseudo) (ops : List Instr) (s : State) : Result :=
  guarded (p.condition s && p.spelledBy ops) (execAll ops s)

/-- The binary digits of a vector, most significant first (R10). -/
def binDigits {n : Nat} (v : BitVec n) : List Char :=
  (List.range n).reverse.map fun i => if v.getLsbD i then '1' else '0'

/-- A binary literal, `0b` and the bits (R10). -/
def binLiteral {n : Nat} (v : BitVec n) : String := String.ofList ('0' :: 'b' :: binDigits v)

/-- The decimal digit of a number below 10. -/
def decDigit (d : Nat) : Char := Char.ofNat ('0'.toNat + d)

/-- The last `places` decimal digits of a number, without leading zeros. -/
def decDigits : Nat → Nat → List Char
  | 0, _ => []
  | places + 1, v => if v < 10 then [decDigit v] else decDigits places (v / 10) ++ [decDigit (v % 10)]

/-- A decimal literal; every operand of R87 has at most four digits. -/
def decLiteral (v : Nat) : String := String.ofList (decDigits 4 v)

/-- One operation as a line of trace assembly (R87). -/
def asmOf : Instr → String
  | .reset r l => "RESET " ++ binLiteral r ++ ", " ++ binLiteral l
  | .bootClk => "BOOT_CLK"
  | .bootSwCfg => "BOOT_SW_CFG"
  | .bootLedCfg => "BOOT_LED_CFG"
  | .bootBuz => "BOOT_BUZ"
  | .bootGie => "BOOT_GIE"
  | .pinSet n v => "PIN_SET " ++ decLiteral n.val ++ ", " ++ (if v then "1" else "0")
  | .svcEnter => "SVC_ENTER"
  | .svcClear m => "SVC_CLEAR " ++ binLiteral m
  | .svcSnap => "SVC_SNAP"
  | .svcRearm q => "SVC_REARM " ++ binLiteral q
  | .svcBtn1 => "SVC_BTN1"
  | .svcBtn2 => "SVC_BTN2"
  | .svcBtn3 => "SVC_BTN3"
  | .svcBtn4 => "SVC_BTN4"
  | .svcExit => "SVC_EXIT"
  | .loopSetPeriod t => "LOOP_SET_PERIOD " ++ decLiteral t.toNat
  | .loopReadPlay => "LOOP_READ_PLAY"
  | .loopReadFlash => "LOOP_READ_FLASH"
  | .loopFlashTgl m => "LOOP_FLASH_TGL " ++ binLiteral m
  | .loopDelay => "LOOP_DELAY"

/-- Drops the blanks at both ends. -/
def trimBlanks (cs : List Char) : List Char :=
  ((cs.dropWhile (· == ' ')).reverse.dropWhile (· == ' ')).reverse

/-- The pieces of a text between occurrences of a separator. -/
def splitAtChar (sep : Char) : List Char → List (List Char)
  | [] => [[]]
  | c :: cs =>
    match splitAtChar sep cs with
    | [] => [[c]]
    | p :: ps => if c = sep then [] :: p :: ps else (c :: p) :: ps

/-- The value of a list of decimal digits read after `acc`. -/
def decValue (acc : Nat) : List Char → Option Nat
  | [] => some acc
  | c :: cs =>
    if '0' ≤ c ∧ c ≤ '9' then decValue (10 * acc + (c.toNat - '0'.toNat)) cs else none

/-- A decimal operand below a bound. -/
def readDec (bound : Nat) (cs : List Char) : Option Nat :=
  match cs with
  | [] => none
  | _ :: _ => (decValue 0 cs).bind fun v => if v < bound then some v else none

/-- The value of a list of binary digits read after `acc`. -/
def binValue (acc : Nat) : List Char → Option Nat
  | [] => some acc
  | c :: cs =>
    if c = '0' then binValue (2 * acc) cs
    else if c = '1' then binValue (2 * acc + 1) cs
    else none

/-- A binary operand of exactly n bits, written `0b` and the bits (R10, R87). -/
def readBin (n : Nat) (cs : List Char) : Option (BitVec n) :=
  match cs with
  | '0' :: 'b' :: ds => if ds.length = n then (binValue 0 ds).map (BitVec.ofNat n) else none
  | _ => none

/-- A pin number, 0 to 3 (R87). -/
def readPin (cs : List Char) : Option Pin := (readDec 4 cs).map (Fin.ofNat 4)

/-- A level, 0 or 1 (R87). -/
def readLevel (cs : List Char) : Option Bool := (readDec 2 cs).map (· == 1)

/-- A button, 1 to 4, as the pin it is on (R88, R25). -/
def readButton (cs : List Char) : Option Pin :=
  (readDec 5 cs).bind fun b => if b = 0 then none else some (Fin.ofNat 4 (b - 1))

/-- One LED's mask, 0b01 or 0b10 (R88). -/
def readHalf (cs : List Char) : Option Led := (readBin 2 cs).bind halfMask

/-- The lines of a pseudo-operation from its name and operands (R88). -/
def pseudoOf (name : String) (operands : List (List Char)) : Option Pseudo :=
  match name, operands with
  | "PRESS", [b] => (readButton b).map .press
  | "RELEASE", [b] => (readButton b).map .release
  | "SERVICE", [] => some (.service 0b1111#4 0b0000#4)
  | "SERVICE", [m, q] => (readBin 4 m).bind fun m => (readBin 4 q).map (.service m)
  | "BOOT", [] => some .boot
  | "SWEEP", [] => some .sweep
  | "QUIET_ITER", [] => some .quietIter
  | "FLASH_TICK", [a] => (readHalf a).map .flashTick
  | "FLASH_TICK", [] => some .flashTickAtomic
  | _, _ => none

/-- An operation from its mnemonic and operands (R87); a form R87 does not give is no operation, and neither is the reserved
mask of LOOP_FLASH_TGL (R82). -/
def instrOf (name : String) (operands : List (List Char)) : Option Instr :=
  match name, operands with
  | "RESET", [r, l] => (readBin 4 r).bind fun r => (readBin 2 l).map (.reset r)
  | "BOOT_CLK", [] => some .bootClk
  | "BOOT_SW_CFG", [] => some .bootSwCfg
  | "BOOT_LED_CFG", [] => some .bootLedCfg
  | "BOOT_BUZ", [] => some .bootBuz
  | "BOOT_GIE", [] => some .bootGie
  | "PIN_SET", [n, v] => (readPin n).bind fun n => (readLevel v).map (.pinSet n)
  | "SVC_ENTER", [] => some .svcEnter
  | "SVC_CLEAR", [m] => (readBin 4 m).map .svcClear
  | "SVC_SNAP", [] => some .svcSnap
  | "SVC_REARM", [q] => (readBin 4 q).map .svcRearm
  | "SVC_BTN1", [] => some .svcBtn1
  | "SVC_BTN2", [] => some .svcBtn2
  | "SVC_BTN3", [] => some .svcBtn3
  | "SVC_BTN4", [] => some .svcBtn4
  | "SVC_EXIT", [] => some .svcExit
  | "LOOP_SET_PERIOD", [t] => (readDec 4096 t).map fun t => .loopSetPeriod (BitVec.ofNat 12 t)
  | "LOOP_READ_PLAY", [] => some .loopReadPlay
  | "LOOP_READ_FLASH", [] => some .loopReadFlash
  | "LOOP_FLASH_TGL", [m] => (readBin 2 m).bind fun m => if m = 0b00#2 then none else some (.loopFlashTgl m)
  | "LOOP_DELAY", [] => some .loopDelay
  | _, _ => none

/-- One line of trace assembly (R87): the operations it stands for, one unless it is empty, a comment or a pseudo-operation
(R88); none where it is no line of the syntax. -/
def assembleLine (line : String) : Option (List Instr) :=
  let text := trimBlanks (line.toList.takeWhile (· != ';'))
  let name := String.ofList (text.takeWhile (· != ' '))
  let rest := trimBlanks (text.dropWhile (· != ' '))
  let operands := if rest.isEmpty then [] else (splitAtChar ',' rest).map trimBlanks
  if text.isEmpty then some []
  else
    match instrOf name operands with
    | some i => some [i]
    | none => (pseudoOf name operands).map Pseudo.expand

/-- A trace in assembly, one line after another (R87). -/
def assemble : List String → Option (List Instr)
  | [] => some []
  | l :: ls => (assembleLine l).bind fun is => (assemble ls).map (is ++ ·)

end Sys2Proof.Machine
end

