-- ==== Sys2Proof/Safety.lean ====
section
/-!
DEFINITION. What counts as a safe run, in the terms the claims use: reachable states and the invariant they meet (R57, R58),
agents that are enabled, fair infinite runs (R210, R211), the tone commands among the observable events (R181), and the LED
register's writes along a run (R155).
-/

namespace Sys2Proof.Machine

/-- A state some finite run from launch reaches (R207, R211); the run of no steps reaches launch itself (log entry 22). -/
def Reachable (cfg : Config) (s : State) : Prop := ∃ is : List Instr, execAll is (State.launch cfg) = .next s

/-- What every reachable state meets. -/
structure Inv (s : State) : Prop where
  /-- A service runs only with interrupts globally enabled (R58a). -/
  svc_needs_gie : s.svc = .idle ∨ s.gie = true
  /-- The loop is in a BOOT phase exactly while `gie = 0` (R58b). -/
  boot_iff_no_gie : s.lpc.isBoot = true ↔ s.gie = false
  /-- At CLR the observed flags are set, and some flag was observed (R121). -/
  seen_at_clr : s.svc = .clr → ∃ m, s.seen = some m ∧ m ≠ 0b0000#4
  /-- From REARM on the snapshot is taken (R123). -/
  snap_taken : 3 ≤ s.svc.code.toNat → s.snap.isSome = true
  /-- Except between SVC_SNAP and SVC_REARM, a taken snapshot is what the pins are armed by (R58d, R134). -/
  armed_by_snap : s.svc ≠ .rearm → ∀ v, s.snap = some v → s.sense = v
  /-- Before BOOT_GIE no service has run (R238). -/
  no_service_in_boot :
    s.gie = false → s.snap = none ∧ s.seen = none ∧ s.play = false ∧ s.flash = false ∧ s.tone = none
  /-- After BOOT_SW_CFG the pins are configured and enabled (R24, R28, R237). -/
  switches_configured : 2 ≤ s.lpc.code → s.swcfg = true ∧ s.ie = 0b1111#4
  /-- After BOOT_LED_CFG the LED pins are outputs (R34, R237). -/
  leds_configured : 3 ≤ s.lpc.code → s.ledOe = true
  /-- The split positions are reached in the split form alone (R177). -/
  split_positions : (s.lpc = .ftglA ∨ ∃ fm, s.lpc = .ftglB fm) → s.cfg.flashToggleForm = .split
  /-- The atomic position is reached in the atomic form alone (R177). -/
  atomic_position : s.lpc = .ftgl → s.cfg.flashToggleForm = .atomic
  /-- The tone generator was sent silence or a sweep period and nothing else (R173). -/
  tone_from_loop : ∀ t, s.tone = some t → t = Config.silence ∨ t ∈ sweepPeriods
  /-- In the delay after a sweep command the tone is that command's (R173). -/
  tone_in_delay : ∀ k, s.lpc = .swpDly k → s.tone = some (per k)
  /-- Until RESET the levels are the launch levels (R22). -/
  launch_levels : s.started = false → s.lvl = s.cfg.level0

/-- The agent has a step: some operation of it is enabled (R207, R208). -/
def agentEnabled (a : Agent) (s : State) : Prop :=
  ∃ i : Instr, i.agent = a ∧ ∃ t, exec i s = .next t

/-- An infinite run: operation n takes state n to state n + 1 (R211). It may begin in any state, reachable or not
(DESIGN CHOICE, log entry 23). -/
def IsInfiniteRun (st : Nat → State) (op : Nat → Instr) : Prop :=
  ∀ n, exec (op n) (st n) = .next (st (n + 1))

/-- Weak fairness of one agent: enabled in every state from some point on, it steps infinitely often (R210). -/
def WeaklyFair (a : Agent) (st : Nat → State) (op : Nat → Instr) : Prop :=
  ∀ n, (∀ m, n ≤ m → agentEnabled a (st m)) → ∀ k, ∃ m, k ≤ m ∧ (op m).agent = a

/-- The runs liveness claims range over: SEQ and LOOP are weakly fair, ENV is not (R105, R210). -/
structure IsFairRun (st : Nat → State) (op : Nat → Instr) : Prop where
  run : IsInfiniteRun st op
  seq_fair : WeaklyFair .seq st op
  loop_fair : WeaklyFair .loop st op

/-- The `tone` events among the events, in order (R181, R182). -/
def toneEvents : List Event → List Period
  | [] => []
  | .tone p :: es => p :: toneEvents es
  | .readPlay _ :: es => toneEvents es
  | .readFlash _ :: es => toneEvents es
  | .led _ :: es => toneEvents es
  | .mode _ _ :: es => toneEvents es

/-- The value of the last `led` event, if there is one (R49, R155). -/
def lastLedEvent : List Event → Option Leds
  | [] => none
  | .led v :: es => (lastLedEvent es).or (some v)
  | .tone _ :: es => lastLedEvent es
  | .readPlay _ :: es => lastLedEvent es
  | .readFlash _ :: es => lastLedEvent es
  | .mode _ _ :: es => lastLedEvent es

/-- One performed write of the LED register: LedXor(m) or LedClr(m) (R152, R153). -/
inductive LedWrite where
  | xor (m : Leds)
  | clr (m : Leds)
  deriving DecidableEq, Repr

/-- What a primitive makes of the register's value (R152, R153). -/
def LedWrite.apply : LedWrite → Leds → Leds
  | .xor m, v => v ^^^ m
  | .clr m, v => v &&& ~~~m

/-- The primitive an operation performs in a state, by R154's table: the buttons' by the snapshot, the clear when `flash`
goes from 1 to 0, the loop's mask. -/
def ledWriteOf (i : Instr) (s : State) : Option LedWrite :=
  match i with
  | .reset _ _ => none
  | .bootClk => none
  | .bootSwCfg => none
  | .bootLedCfg => none
  | .bootBuz => none
  | .bootGie => none
  | .pinSet _ _ => none
  | .svcEnter => none
  | .svcClear _ => none
  | .svcSnap => none
  | .svcRearm _ => none
  | .svcBtn1 => none
  | .svcBtn2 => if s.snap.any (fun v => !pinBit v 1) then some (.xor 0b10#2) else none
  | .svcBtn3 => if s.snap.any (fun v => !pinBit v 2) then some (.xor 0b01#2) else none
  | .svcBtn4 => if s.snap.any (fun v => !pinBit v 3) && s.flash then some (.clr 0b11#2) else none
  | .svcExit => none
  | .loopSetPeriod _ => none
  | .loopReadPlay => none
  | .loopReadFlash => none
  | .loopFlashTgl m => some (.xor m)
  | .loopDelay => none

/-- The primitives a list of operations performs from a state, in run order (R155). -/
def ledWrites : List Instr → State → List LedWrite
  | [], _ => []
  | i :: is, s =>
    match exec i s with
    | .next t => (ledWriteOf i s).toList ++ ledWrites is t
    | .fault _ => []
    | .refused _ => []

/-- The operations of a list that are not the switches', in order. -/
def withoutEnv (ops : List Instr) : List Instr := ops.filter fun i => i.agent ≠ .env

/-- A whole service from `s` to `t`, with PIN_SETs anywhere between its steps; `u` is the state SVC_SNAP is performed in
(R120, R88's SERVICE with ENV's steps between its lines). -/
def ServiceRun (s u t : State) : Prop :=
  ∃ pre post m q,
    withoutEnv pre = [.svcEnter, .svcClear m] ∧
    withoutEnv post = [.svcRearm q, .svcBtn1, .svcBtn2, .svcBtn3, .svcBtn4, .svcExit] ∧
    execAll pre s = .next u ∧ execAll (.svcSnap :: post) u = .next t

end Sys2Proof.Machine
end

