-- ==== Sys2Proof/Certificates/Slice0/Obligations.lean ====
section
/-!
DEFINITION. The statements for the provers.
-/

open Sys2Proof Sys2Proof.Machine

/-- The worked encodings of R89 decode and encode as printed (R89). -/
def Obligations.WorkedEncodingsBothWays : Prop :=
  ∀ p ∈ [
      ((.pinSet 1 false : Instr), (0x1001#16 : Word)), (.pinSet 1 true, 0x1011#16), (.pinSet 3 false, 0x1003#16),
      (.svcClear 0b1111#4, 0x210F#16), (.svcRearm 0b0010#4, 0x2302#16), (.loopSetPeriod 500#12, 0x31F4#16),
      (.loopSetPeriod 2000#12, 0x37D0#16), (.loopSetPeriod 0#12, 0x3000#16), (.loopFlashTgl 0b11#2, 0x4203#16),
      (.reset 0b0000#4 0b00#2, 0x0000#16), (.reset 0b1010#4 0b01#2, 0x001A#16)],
    encode p.1 = p.2 ∧ decode p.2 = .op p.1

/-- Decoding an encoded operation gives it back, for every well-formed operation (R84, R86, 30_encoding.md section 2).
-/
def Obligations.DecodeOfEncodeIsTheOperation : Prop :=
  ∀ i : Instr, i.WellFormed → decode (encode i) = .op i

/-- A word that decodes is the encoding of what it decodes to, and that is well-formed (R86). -/
def Obligations.EncodeOfDecodeIsTheWord : Prop :=
  ∀ w : Word,
    (∃ i, decode w = .op i ∧ encode i = w ∧ i.WellFormed) ∨ decode w = .invalid w

/-- The words that spell no operation are exactly those R85 lists, and a trace is refused at them (R85). -/
def Obligations.InvalidWordsAreTheReservedOnes : Prop :=
  (∀ w : Word, decode w = .invalid w ↔ reservedWord w = true) ∧
  (∀ (w : Word) (s : State), reservedWord w = true → execWord w s = .refused (.invalid w))

/-- No word selects two rows of the opcode table (R84, 30_encoding.md section 2). -/
def Obligations.OpcodeRowsAreDisjoint : Prop :=
  opcodeRows.Pairwise fun a b => ∀ w : Word, ¬ (a.selects w = true ∧ b.selects w = true)

/-- A trace serialized to bytes reads back as the same trace, most significant byte first (R61). -/
def Obligations.TraceBytesReadBack : Prop :=
  ∀ ws : List Word,
    traceOfBytes (traceBytes ws) = some ws ∧
    ∀ w : Word, traceBytes (w :: ws) = w.extractLsb' 8 8 :: w.extractLsb' 0 8 :: traceBytes ws

/-- A printed line of trace assembly assembles to the operation it was printed from (R87, 30_encoding.md section 4).
The layout of the printed line is the model's own choice (log entry 16). -/
def Obligations.AssemblyReadsBackWhatItPrints : Prop :=
  ∀ i : Instr, i.WellFormed → assembleLine (asmOf i) = some [i]

/-- A step takes the next word, decodes it and performs its operation (R80, R83, R207). That an empty trace is refused
is the model's own choice (log entry 6). -/
def Obligations.StepRunsTheNextWord : Prop :=
  (∀ (s : State) (w : Word) (rest : List Word) (i : Instr),
    s.trace = w :: rest → decode w = .op i → step s = exec i { s with trace := rest }) ∧
  (∀ (s : State) (w : Word) (rest : List Word),
    s.trace = w :: rest → decode w = .invalid w → step s = .refused (.invalid w)) ∧
  (∀ s : State, s.trace = [] → step s = .refused .traceEnd)

/-- Placing an encoded operation as the next word makes the next step perform exactly it (R83, R84, R207). -/
def Obligations.StepRunsTheEncodedOperation : Prop :=
  ∀ (i : Instr) (s : State), i.WellFormed → step (s.withFetchWord 16 (encode i).toNat) = exec i s

/-- RESET R, L sets every field to its reset value and is admitted only first (R230, R231). -/
def Obligations.ResetSetsEveryField : Prop :=
  (∀ (r : Pins) (l : Leds), encode (.reset r l) = 0b0000000000#10 ++ l ++ r) ∧
  (∀ (r : Pins) (l : Leds) (s : State), s.started = false →
    exec (.reset r l) s = .next
      { cfg := s.cfg, started := true, trace := s.trace, lvl := s.cfg.level0, swcfg := false, sense := 0b1111#4,
        pend := r, ie := 0b0000#4, gie := false, play := false, flash := false, led := l, ledOe := false,
        svc := .idle, seen := none, snap := none, lpc := .bootClk, tone := none, events := [] }) ∧
  (∀ (r : Pins) (l : Leds) (s : State), s.started = true → exec (.reset r l) s = .refused .notEnabled)

/-- Before RESET every other operation is not enabled (R80, R231, 95_test_vectors.md V6). -/
def Obligations.NothingRunsBeforeReset : Prop :=
  ∀ (i : Instr) (s : State), s.started = false → (∀ r l, i ≠ .reset r l) → exec i s = .refused .notEnabled

/-- The model's reset state holds the values R230 fixes and is what RESET with zero draws leaves (R230, R238,
70_reset_and_hazards.md section 1). The draws 0 and the default LEVEL0 are the model's own choices (log entries 2 and
3). -/
def Obligations.ResetStateIsAfterReset : Prop :=
  exec (.reset 0b0000#4 0b00#2) (State.launch Config.default) = .next State.reset ∧
  State.reset.swcfg = false ∧ State.reset.sense = 0b1111#4 ∧ State.reset.ie = 0b0000#4 ∧ State.reset.gie = false ∧
  State.reset.play = false ∧ State.reset.flash = false ∧ State.reset.ledOe = false ∧ State.reset.svc = .idle ∧
  State.reset.seen = none ∧ State.reset.snap = none ∧ State.reset.lpc = .bootClk ∧ State.reset.tone = none ∧
  State.reset.events = []

/-- The five boot operations, each at its own phase, and nowhere else (R232, R233, R234, R235, R236). -/
def Obligations.BootOperationsConfigureTheBlock : Prop :=
  (encode .bootClk = 0x0100#16 ∧ encode .bootSwCfg = 0x0200#16 ∧ encode .bootLedCfg = 0x0300#16 ∧
    encode .bootBuz = 0x0400#16 ∧ encode .bootGie = 0x0500#16) ∧
  (∀ s : State, s.started = true → s.svc = .idle →
    (s.lpc = .bootClk → exec .bootClk s = .next { s with lpc := .bootSw }) ∧
    (s.lpc = .bootSw → exec .bootSwCfg s = .next
      { s with ie := 0b1111#4, sense := 0b1111#4, swcfg := true, lpc := .bootLed }) ∧
    (s.lpc = .bootLed → exec .bootLedCfg s = .next { s with ledOe := true, lpc := .bootBuz }) ∧
    (s.lpc = .bootBuz → exec .bootBuz s = .next { s with lpc := .bootGie }) ∧
    (s.lpc = .bootGie → exec .bootGie s = .next { s with gie := true, lpc := .top })) ∧
  (∀ s : State,
    (¬ (s.svc = .idle ∧ s.lpc = .bootClk) → exec .bootClk s = .refused .notEnabled) ∧
    (¬ (s.svc = .idle ∧ s.lpc = .bootSw) → exec .bootSwCfg s = .refused .notEnabled) ∧
    (¬ (s.svc = .idle ∧ s.lpc = .bootLed) → exec .bootLedCfg s = .refused .notEnabled) ∧
    (¬ (s.svc = .idle ∧ s.lpc = .bootBuz) → exec .bootBuz s = .refused .notEnabled) ∧
    (¬ (s.svc = .idle ∧ s.lpc = .bootGie) → exec .bootGie s = .refused .notEnabled))

/-- PIN_SET drives one pin in every state after RESET and latches an edge in the armed direction (R100, R101, R106).
-/
def Obligations.PinSetDrivesAndLatches : Prop :=
  (∀ (n : Pin) (v : Bool), encode (.pinSet n v) = 0b00010000000#11 ++ BitVec.ofBool v ++ 0b00#2 ++ BitVec.ofFin (w := 2) n) ∧
  ∀ (n : Pin) (v : Bool) (s : State), s.started = true →
    ∃ t, exec (.pinSet n v) s = .next t ∧
      (∀ m, pinBit t.lvl m = if m = n then v else pinBit s.lvl m) ∧
      (∀ m, pinBit t.pend m =
        if m = n ∧ ((pinBit s.lvl n = true ∧ v = false ∧ pinBit s.sense n = true) ∨
                    (pinBit s.lvl n = false ∧ v = true ∧ pinBit s.sense n = false))
        then true else pinBit s.pend m) ∧
      t = { s with lvl := t.lvl, pend := t.pend }

/-- Level changes of two pins give the same state in either order (R104, R101). -/
def Obligations.PinSetsOfTwoPinsCommute : Prop :=
  ∀ (n m : Pin) (v w : Bool) (s : State), n ≠ m → s.started = true →
    ∃ t, execAll [.pinSet n v, .pinSet m w] s = .next t ∧ execAll [.pinSet m w, .pinSet n v] s = .next t

/-- SVC_ENTER starts a service exactly when the request holds, saving nothing but the observed flags (R121, R201). -/
def Obligations.ServiceEntryOnRequest : Prop :=
  encode .svcEnter = 0x2000#16 ∧
  (∀ s : State, s.started = true → s.gie = true → s.pend &&& s.ie ≠ 0b0000#4 → s.svc = .idle →
    exec .svcEnter s = .next { s with seen := some (s.pend &&& s.ie), svc := .clr }) ∧
  (∀ s : State, ¬ (s.gie = true ∧ s.pend &&& s.ie ≠ 0b0000#4 ∧ s.svc = .idle) →
    exec .svcEnter s = .refused .notEnabled) ∧
  (∀ s : State, s.req = true ↔ (s.gie = true ∧ s.pend &&& s.ie ≠ 0b0000#4 ∧ s.svc = .idle))

/-- SVC_CLEAR M clears the flags of an admitted mask, for each value of CLEAR_SCOPE (R122). -/
def Obligations.ServiceClearWithinItsScope : Prop :=
  (∀ m : Pins, encode (.svcClear m) = 0b001000010000#12 ++ m) ∧
  (∀ (m seen : Pins) (s : State), s.started = true → s.svc = .clr → s.seen = some seen →
    ((match s.cfg.clearScope with
      | .group => m = 0b1111#4
      | .observed => m = seen
      | .either => ∀ n, pinBit seen n = true → pinBit m n = true) →
      exec (.svcClear m) s = .next { s with pend := s.pend &&& ~~~m, svc := .snap }) ∧
    (¬ (match s.cfg.clearScope with
      | .group => m = 0b1111#4
      | .observed => m = seen
      | .either => ∀ n, pinBit seen n = true → pinBit m n = true) →
      exec (.svcClear m) s = .refused .notEnabled)) ∧
  (∀ (m : Pins) (s : State), s.svc ≠ .clr → exec (.svcClear m) s = .refused .notEnabled)

/-- SVC_SNAP copies the levels of all four pins (R123). -/
def Obligations.SnapshotTakesAllLevels : Prop :=
  encode .svcSnap = 0x2200#16 ∧
  (∀ s : State, s.started = true → s.svc = .snap →
    exec .svcSnap s = .next { s with snap := some s.lvl, svc := .rearm }) ∧
  (∀ s : State, s.svc ≠ .snap → exec .svcSnap s = .refused .notEnabled)

/-- SVC_REARM Q arms every pin from its snapshot level and may set only the flags it is allowed (R124). -/
def Obligations.RearmFromSnapshot : Prop :=
  (∀ q : Pins, encode (.svcRearm q) = 0b001000110000#12 ++ q) ∧
  (∀ (q snap : Pins) (s : State), s.started = true → s.svc = .rearm → s.snap = some snap →
    ((∀ n, pinBit q n = true →
      match s.cfg.senseWritePending with
      | .never => False
      | .may => pinBit s.sense n ≠ pinBit snap n ∧ pinBit s.lvl n ≠ pinBit snap n
      | .any => pinBit s.sense n ≠ pinBit snap n) →
      exec (.svcRearm q) s = .next { s with sense := snap, pend := s.pend ||| q, svc := .b1 }) ∧
    (¬ (∀ n, pinBit q n = true →
      match s.cfg.senseWritePending with
      | .never => False
      | .may => pinBit s.sense n ≠ pinBit snap n ∧ pinBit s.lvl n ≠ pinBit snap n
      | .any => pinBit s.sense n ≠ pinBit snap n) →
      exec (.svcRearm q) s = .refused .notEnabled)) ∧
  (∀ (q : Pins) (s : State), s.svc ≠ .rearm → exec (.svcRearm q) s = .refused .notEnabled)

/-- SVC_BTN1 inverts play when its snapshot bit is low (R125). -/
def Obligations.Button1InvertsPlay : Prop :=
  encode .svcBtn1 = 0x2400#16 ∧
  (∀ (snap : Pins) (s : State), s.started = true → s.svc = .b1 → s.snap = some snap →
    (pinBit snap 0 = false → exec .svcBtn1 s = .next
      { s with play := !s.play, events := s.events ++ [.mode (!s.play) s.flash], svc := .b2 }) ∧
    (pinBit snap 0 = true → exec .svcBtn1 s = .next { s with svc := .b2 })) ∧
  (∀ s : State, s.svc ≠ .b1 → exec .svcBtn1 s = .refused .notEnabled)

/-- SVC_BTN2 inverts the Green LED when its snapshot bit is low (R126). -/
def Obligations.Button2InvertsGreen : Prop :=
  encode .svcBtn2 = 0x2500#16 ∧
  (∀ (snap : Pins) (s : State), s.started = true → s.svc = .b2 → s.snap = some snap →
    (pinBit snap 1 = false → exec .svcBtn2 s = .next
      { s with led := s.led ^^^ 0b10#2, events := s.events ++ [.led (s.led ^^^ 0b10#2)], svc := .b3 }) ∧
    (pinBit snap 1 = true → exec .svcBtn2 s = .next { s with svc := .b3 })) ∧
  (∀ s : State, s.svc ≠ .b2 → exec .svcBtn2 s = .refused .notEnabled)

/-- SVC_BTN3 inverts the Red LED when its snapshot bit is low (R127). -/
def Obligations.Button3InvertsRed : Prop :=
  encode .svcBtn3 = 0x2600#16 ∧
  (∀ (snap : Pins) (s : State), s.started = true → s.svc = .b3 → s.snap = some snap →
    (pinBit snap 2 = false → exec .svcBtn3 s = .next
      { s with led := s.led ^^^ 0b01#2, events := s.events ++ [.led (s.led ^^^ 0b01#2)], svc := .b4 }) ∧
    (pinBit snap 2 = true → exec .svcBtn3 s = .next { s with svc := .b4 })) ∧
  (∀ s : State, s.svc ≠ .b3 → exec .svcBtn3 s = .refused .notEnabled)

/-- SVC_BTN4 inverts flash when its snapshot bit is low and clears both LEDs when flash stops (R128). -/
def Obligations.Button4TogglesFlash : Prop :=
  encode .svcBtn4 = 0x2700#16 ∧
  (∀ (snap : Pins) (s : State), s.started = true → s.svc = .b4 → s.snap = some snap →
    (pinBit snap 3 = false → s.flash = false → exec .svcBtn4 s = .next
      { s with flash := true, events := s.events ++ [.mode s.play true], svc := .exit }) ∧
    (pinBit snap 3 = false → s.flash = true → exec .svcBtn4 s = .next
      { s with
        flash := false, led := 0b00#2, events := s.events ++ [.mode s.play false, .led 0b00#2], svc := .exit }) ∧
    (pinBit snap 3 = true → exec .svcBtn4 s = .next { s with svc := .exit })) ∧
  (∀ s : State, s.svc ≠ .b4 → exec .svcBtn4 s = .refused .notEnabled)

/-- SVC_EXIT ends the service and restores nothing (R129). -/
def Obligations.ServiceExitReturns : Prop :=
  encode .svcExit = 0x2800#16 ∧
  (∀ s : State, s.started = true → s.svc = .exit → exec .svcExit s = .next { s with svc := .idle }) ∧
  (∀ s : State, s.svc ≠ .exit → exec .svcExit s = .refused .notEnabled)

/-- An operation that reads an unset field faults, at its position (R57, R207). The fault before the test of the draw
is the model's own choice (log entry 8). -/
def Obligations.ReadingUnsetFaults : Prop :=
  (∀ (m : Pins) (s : State), s.started = true → s.svc = .clr → s.seen = none →
    exec (.svcClear m) s = .fault .unsetRead) ∧
  (∀ (q : Pins) (s : State), s.started = true → s.svc = .rearm → s.snap = none →
    exec (.svcRearm q) s = .fault .unsetRead) ∧
  (∀ s : State, s.started = true → s.snap = none →
    (s.svc = .b1 → exec .svcBtn1 s = .fault .unsetRead) ∧ (s.svc = .b2 → exec .svcBtn2 s = .fault .unsetRead) ∧
    (s.svc = .b3 → exec .svcBtn3 s = .fault .unsetRead) ∧ (s.svc = .b4 → exec .svcBtn4 s = .fault .unsetRead))

/-- Each sequencer operation runs at one value of svc and advances it to the next, in order (R40). -/
def Obligations.SequencerAdvancesInOrder : Prop :=
  (∀ (i : Instr) (s t : State), i.agent = .seq → exec i s = .next t →
    (mnemonicOf i, s.svc, t.svc) ∈ [
      ("SVC_ENTER", SvcPos.idle, SvcPos.clr), ("SVC_CLEAR", .clr, .snap), ("SVC_SNAP", .snap, .rearm),
      ("SVC_REARM", .rearm, .b1), ("SVC_BTN1", .b1, .b2), ("SVC_BTN2", .b2, .b3), ("SVC_BTN3", .b3, .b4),
      ("SVC_BTN4", .b4, .exit), ("SVC_EXIT", .exit, .idle)]) ∧
  (∀ (i : Instr) (s t : State), i.agent ≠ .seq → exec i s = .next t →
    t.svc = s.svc ∨ (∃ r l, i = .reset r l) ∧ t.svc = .idle) ∧
  (∀ (r : Pins) (l : Leds) (s t : State), exec (.reset r l) s = .next t → t.svc = .idle) ∧
  [SvcPos.idle.code, SvcPos.clr.code, SvcPos.snap.code, SvcPos.rearm.code, SvcPos.b1.code, SvcPos.b2.code,
    SvcPos.b3.code, SvcPos.b4.code, SvcPos.exit.code] = [0, 1, 2, 3, 4, 5, 6, 7, 8]

/-- The sweep period function per(k) (R171). -/
def Obligations.SweepPeriodFunction : Prop :=
  (∀ k : Fin 32, k.val ≤ 15 → (per k).toNat = 500 + 100 * k.val) ∧
  (∀ k : Fin 32, 16 ≤ k.val → (per k).toNat = 2000 - 100 * (k.val - 16)) ∧
  sweepPeriods = (List.finRange 32).map per

/-- LOOP_SET_PERIOD T sends the period its position calls for and no other (R173). -/
def Obligations.SetPeriodSendsTheLoopsCommand : Prop :=
  (∀ t : Period, encode (.loopSetPeriod t) = 0b0011#4 ++ t) ∧
  (∀ (k : Fin 32) (s : State), s.started = true → s.svc = .idle → s.lpc = .swpSet k →
    exec (.loopSetPeriod (per k)) s = .next
      { s with tone := some (per k), events := s.events ++ [.tone (per k)], lpc := .swpDly k }) ∧
  (∀ s : State, s.started = true → s.svc = .idle → s.lpc = .sil →
    exec (.loopSetPeriod 0#12) s = .next
      { s with tone := some 0#12, events := s.events ++ [.tone 0#12], lpc := .fchk }) ∧
  (∀ (t : Period) (s : State),
    ¬ (s.svc = .idle ∧ ((∃ k, s.lpc = .swpSet k ∧ t = per k) ∨ (s.lpc = .sil ∧ t = 0#12))) →
    exec (.loopSetPeriod t) s = .refused .notEnabled)

/-- LOOP_READ_PLAY reads play once at the top and branches to the sweep or to silence (R172). -/
def Obligations.ReadPlayBranches : Prop :=
  encode .loopReadPlay = 0x4000#16 ∧
  (∀ s : State, s.started = true → s.svc = .idle → s.lpc = .top →
    (s.play = true → exec .loopReadPlay s = .next
      { s with events := s.events ++ [.readPlay true], lpc := .swpSet 0 }) ∧
    (s.play = false → exec .loopReadPlay s = .next
      { s with events := s.events ++ [.readPlay false], lpc := .sil })) ∧
  (∀ s : State, ¬ (s.svc = .idle ∧ s.lpc = .top) → exec .loopReadPlay s = .refused .notEnabled)

/-- LOOP_READ_FLASH reads flash once and branches by the form of the toggle (R176). -/
def Obligations.ReadFlashBranches : Prop :=
  encode .loopReadFlash = 0x4100#16 ∧
  (∀ s : State, s.started = true → s.svc = .idle → s.lpc = .fchk →
    (s.flash = true → s.cfg.flashToggleForm = .split → exec .loopReadFlash s = .next
      { s with events := s.events ++ [.readFlash true], lpc := .ftglA }) ∧
    (s.flash = true → s.cfg.flashToggleForm = .atomic → exec .loopReadFlash s = .next
      { s with events := s.events ++ [.readFlash true], lpc := .ftgl }) ∧
    (s.flash = false → exec .loopReadFlash s = .next
      { s with events := s.events ++ [.readFlash false], lpc := .top })) ∧
  (∀ s : State, ¬ (s.svc = .idle ∧ s.lpc = .fchk) → exec .loopReadFlash s = .refused .notEnabled)

/-- LOOP_FLASH_TGL M inverts the LEDs of an admitted mask, whole or half by half (R178). That the guard reads the
position alone, whatever FLASH_TOGGLE_FORM is, is the model's own inference (log entry 10). -/
def Obligations.FlashToggleInvertsItsMask : Prop :=
  (∀ m : Leds, encode (.loopFlashTgl m) = 0b01000010000000#14 ++ m) ∧
  (∀ s : State, s.started = true → s.svc = .idle →
    (∀ fm : Led, s.lpc = .ftglA → exec (.loopFlashTgl fm.mask) s = .next
      { s with led := s.led ^^^ fm.mask, events := s.events ++ [.led (s.led ^^^ fm.mask)], lpc := .ftglB fm }) ∧
    (∀ fm : Led, s.lpc = .ftglB fm → exec (.loopFlashTgl (0b11#2 ^^^ fm.mask)) s = .next
      { s with
        led := s.led ^^^ (0b11#2 ^^^ fm.mask), events := s.events ++ [.led (s.led ^^^ (0b11#2 ^^^ fm.mask))],
        lpc := .fdly }) ∧
    (s.lpc = .ftgl → exec (.loopFlashTgl 0b11#2) s = .next
      { s with led := s.led ^^^ 0b11#2, events := s.events ++ [.led (s.led ^^^ 0b11#2)], lpc := .fdly })) ∧
  (∀ (m : Leds) (s : State),
    ¬ (s.svc = .idle ∧
      ((s.lpc = .ftglA ∧ (m = 0b01#2 ∨ m = 0b10#2)) ∨
        (∃ fm : Led, s.lpc = .ftglB fm ∧ m = 0b11#2 ^^^ fm.mask) ∨
        (s.lpc = .ftgl ∧ m = 0b11#2))) →
    exec (.loopFlashTgl m) s = .refused .notEnabled) ∧
  Led.red.mask = 0b01#2 ∧ Led.green.mask = 0b10#2

/-- LOOP_DELAY changes no state but the loop's position (R174). -/
def Obligations.DelayOnlyMovesTheLoop : Prop :=
  encode .loopDelay = 0x4300#16 ∧
  (∀ s : State, s.started = true → s.svc = .idle →
    (∀ (k : Fin 32) (h : k.val < 31), s.lpc = .swpDly k →
      exec .loopDelay s = .next { s with lpc := .swpSet ⟨k.val + 1, by omega⟩ }) ∧
    (s.lpc = .swpDly 31 → exec .loopDelay s = .next { s with lpc := .fchk }) ∧
    (s.lpc = .fdly → exec .loopDelay s = .next { s with lpc := .top })) ∧
  (∀ s : State, ¬ (s.svc = .idle ∧ ((∃ k, s.lpc = .swpDly k) ∨ s.lpc = .fdly)) →
    exec .loopDelay s = .refused .notEnabled)

/-- While a service runs no loop operation is enabled, and the switches still are (R203). -/
def Obligations.LoopIsPreemptedByAService : Prop :=
  (∀ (i : Instr) (s : State), s.svc ≠ .idle → i.agent = .loop → exec i s = .refused .notEnabled) ∧
  (∀ (n : Pin) (v : Bool) (s : State), s.started = true → ∃ t, exec (.pinSet n v) s = .next t)

/-- Each field is written only by the operations R63 and R212 name for it (R63, R212, R58, 20_memory.md section 2). -/
def Obligations.OnlyNamedOperationsWriteEachField : Prop :=
  ∀ (i : Instr) (s t : State), s.started = true → exec i s = .next t →
    t.cfg = s.cfg ∧ t.started = true ∧ t.trace = s.trace ∧
    (t.lvl = s.lvl ∨ ∃ n v, i = .pinSet n v) ∧
    (t.swcfg = s.swcfg ∨ i = .bootSwCfg) ∧
    (t.sense = s.sense ∨ i = .bootSwCfg ∨ ∃ q, i = .svcRearm q) ∧
    (t.pend = s.pend ∨ (∃ n v, i = .pinSet n v) ∨ (∃ m, i = .svcClear m) ∨ ∃ q, i = .svcRearm q) ∧
    (t.ie = s.ie ∨ i = .bootSwCfg) ∧
    (t.gie = s.gie ∨ i = .bootGie) ∧
    (t.play = s.play ∨ i = .svcBtn1) ∧
    (t.flash = s.flash ∨ i = .svcBtn4) ∧
    (t.led = s.led ∨ i = .svcBtn2 ∨ i = .svcBtn3 ∨ i = .svcBtn4 ∨ ∃ m, i = .loopFlashTgl m) ∧
    (t.ledOe = s.ledOe ∨ i = .bootLedCfg) ∧
    (t.svc = s.svc ∨ i.agent = .seq) ∧
    (t.seen = s.seen ∨ i = .svcEnter) ∧
    (t.snap = s.snap ∨ i = .svcSnap) ∧
    (t.lpc = s.lpc ∨ i.agent = .loop) ∧
    (t.tone = s.tone ∨ ∃ p, i = .loopSetPeriod p)

/-- The LED register changes only through the port that svc selects, by that port's primitive (R150, R154, R152,
R153). -/
def Obligations.LedWritesComeThroughOnePort : Prop :=
  ∀ (i : Instr) (s t : State), s.started = true → exec i s = .next t → t.led ≠ s.led →
    (s.ledPort = .seq ∧
      ((i = .svcBtn2 ∧ s.svc = .b2 ∧ t.led = s.led ^^^ 0b10#2) ∨
        (i = .svcBtn3 ∧ s.svc = .b3 ∧ t.led = s.led ^^^ 0b01#2) ∨
        (i = .svcBtn4 ∧ s.svc = .b4 ∧ s.flash = true ∧ t.flash = false ∧ t.led = 0b00#2))) ∨
    (s.ledPort = .loop ∧ ∃ m, i = .loopFlashTgl m ∧ t.led = s.led ^^^ m)

/-- Events are only appended, and every write of led, the mode flags or tone and every read of a flag leaves its event
(R49, 10_state.md section 8). The order of the two events of SVC_BTN4 is that of R128's pseudocode (log entry 11). -/
def Obligations.EventsAreAppendedForEveryWrite : Prop :=
  ∀ (i : Instr) (s t : State), s.started = true → exec i s = .next t →
    ∃ es, t.events = s.events ++ es ∧
      (t.led ≠ s.led → .led t.led ∈ es) ∧
      (t.play ≠ s.play ∨ t.flash ≠ s.flash → .mode t.play t.flash ∈ es) ∧
      (t.tone ≠ s.tone → ∃ p, t.tone = some p ∧ .tone p ∈ es) ∧
      (∀ v, s.snap = some v →
        (i = .svcBtn1 → es = if pinBit v 0 then [] else [.mode t.play t.flash]) ∧
        (i = .svcBtn2 → es = if pinBit v 1 then [] else [.led t.led]) ∧
        (i = .svcBtn3 → es = if pinBit v 2 then [] else [.led t.led]) ∧
        (i = .svcBtn4 → es = if pinBit v 3 then [] else
          if t.flash then [.mode t.play t.flash] else [.mode t.play t.flash, .led t.led])) ∧
      (∀ p, i = .loopSetPeriod p → es = [.tone p]) ∧
      (∀ m, i = .loopFlashTgl m → es = [.led t.led]) ∧
      (i = .loopReadPlay → es = [.readPlay s.play]) ∧
      (i = .loopReadFlash → es = [.readFlash s.flash]) ∧
      (i.agent = .env ∨
          i ∈ [.bootClk, .bootSwCfg, .bootLedCfg, .bootBuz, .bootGie, .svcEnter, .svcSnap, .svcExit, .loopDelay] ∨
          (∃ m, i = .svcClear m) ∨ (∃ q, i = .svcRearm q) →
        es = [])

/-- Over any run led is the value of the last LED event, or what it was (R49). -/
def Obligations.LedIsItsLastEvent : Prop :=
  ∀ (ops : List Instr) (s t : State), s.started = true → execAll ops s = .next t →
    ∃ es, t.events = s.events ++ es ∧ t.led = (lastLedEvent es).getD s.led

/-- Over any run with no sequencer step, play and flash are constant (R180). -/
def Obligations.LoopNeverWritesModeFlags : Prop :=
  ∀ (ops : List Instr) (s t : State), s.started = true → (∀ i ∈ ops, i.agent ≠ .seq) → execAll ops s = .next t →
    t.play = s.play ∧ t.flash = s.flash

/-- A service request stays until SVC_ENTER takes it (R210, R201). -/
def Obligations.RequestPersistsUntilEntry : Prop :=
  ∀ (i : Instr) (s t : State), s.started = true → s.req = true → i ≠ .svcEnter → exec i s = .next t → t.req = true

/-- After boot no operation moves the loop back to a boot phase, and boot moves forward only (R179, R237). -/
def Obligations.LoopNeverLeavesItsCycle : Prop :=
  ∀ (i : Instr) (s t : State), s.started = true → exec i s = .next t →
    (s.lpc.isBoot = false → t.lpc.isBoot = false) ∧
    (s.lpc.isBoot = true → t.lpc.code = s.lpc.code ∨ t.lpc.code = s.lpc.code + 1)

/-- Every step keeps the invariant of reachable states (R57, R58, R237, 10_state.md section 10). -/
def Obligations.InvariantKeptByEveryStep : Prop :=
  ∀ s t : State, Inv s → step s = .next t → Inv t

/-- The invariant holds right after reset and at launch with any parameters (R58, R230, 10_state.md section 10). The
clause on the launch state rests on the values State.launch gives before RESET, which are the model's own choice (log
entry 12); the spec speaks of states from RESET on. -/
def Obligations.InvariantHoldsAtReset : Prop :=
  Inv State.reset ∧ ∀ cfg : Config, Inv (State.launch cfg)

/-- From a state that meets the invariant no operation and no step faults (R57, R207). -/
def Obligations.UnsetReadIsUnreachable : Prop :=
  ∀ s : State, Inv s → (∀ (i : Instr) (f : Fault), exec i s ≠ .fault f) ∧ (∀ f : Fault, step s ≠ .fault f)

/-- After every SVC_EXIT the pins are armed by that service's snapshot (R58, R134). -/
def Obligations.SenseIsTheSnapshotAfterAService : Prop :=
  ∀ s t : State, Inv s → exec .svcExit s = .next t → t.snap = some t.sense

/-- Once started, the sweep sends exactly per(0) to per(31), under every interleaving (R181). -/
def Obligations.SweepRunsToCompletion : Prop :=
  (∀ (ops : List Instr) (s t : State), s.started = true → s.lpc = .swpSet 0 → execAll ops s = .next t →
    (opsOf .loop ops).length ≤ 64 →
    (∃ es, t.events = s.events ++ es ∧ toneEvents es = sweepPeriods.take (((opsOf .loop ops).length + 1) / 2)) ∧
    ((opsOf .loop ops).length = 64 → t.lpc = .fchk) ∧
    ((opsOf .loop ops).length < 64 → (opsOf .loop ops).length % 2 = 0 →
      t.lpc = .swpSet (Fin.ofNat 32 ((opsOf .loop ops).length / 2))) ∧
    ((opsOf .loop ops).length % 2 = 1 → t.lpc = .swpDly (Fin.ofNat 32 ((opsOf .loop ops).length / 2)))) ∧
  (∀ (ops : List Instr) (s t : State), s.started = true → s.lpc = .top → s.play = true →
    .loopReadPlay ∉ ops → execAll (.loopReadPlay :: ops) s = .next t →
    ∃ es, t.events = s.events ++ es ∧ toneEvents es = sweepPeriods.take (((opsOf .loop ops).length + 1) / 2)) ∧
  sweepPeriods.map BitVec.toNat =
    (List.range 16).map (fun k => 500 + 100 * k) ++ (List.range 16).map (fun k => 2000 - 100 * k)

/-- An iteration that reads play = 0 emits exactly one tone event, tone(0) (R182). -/
def Obligations.PausedIterationSilencesOnce : Prop :=
  ∀ (ops : List Instr) (s t : State), s.started = true → s.lpc = .top → s.play = false →
    .loopReadPlay ∉ ops → opsOf .loop ops ≠ [] → execAll (.loopReadPlay :: ops) s = .next t →
    ∃ es, t.events = s.events ++ es ∧ toneEvents es = [0#12]

/-- A pause just after the sweep has started is heard by the 70th loop operation (R184, R248). -/
def Obligations.PauseLatencyAtMostSeventy : Prop :=
  ∀ (ops : List Instr) (s t : State), s.started = true → s.lpc = .swpSet 0 →
    (∀ (pre : List Instr) (u : State), pre <+: ops → execAll pre s = .next u → u.play = false) →
    70 ≤ (opsOf .loop ops).length → execAll ops s = .next t →
    ∃ es, t.events = s.events ++ es ∧ 0#12 ∈ toneEvents es

/-- A whole service applies the four effects decided by its snapshot, each once, whatever the switches do meanwhile
(R120, R130, R131, R134, R135, R202). -/
def Obligations.ServiceAppliesItsSnapshot : Prop :=
  ∀ s u t : State, s.started = true → ServiceRun s u t →
    t.snap = some u.lvl ∧ t.sense = u.lvl ∧ t.svc = .idle ∧
    t.play = (s.play ^^ !pinBit u.lvl 0) ∧ t.flash = (s.flash ^^ !pinBit u.lvl 3) ∧
    t.led =
      (if pinBit u.lvl 3 = false ∧ s.flash = true then 0b00#2
        else s.led ^^^ (if pinBit u.lvl 1 = false then 0b10#2 else 0b00#2)
          ^^^ (if pinBit u.lvl 2 = false then 0b01#2 else 0b00#2)) ∧
    t.gie = s.gie ∧ t.ie = s.ie ∧ t.ledOe = s.ledOe ∧ t.lpc = s.lpc ∧ t.tone = s.tone ∧ t.cfg = s.cfg

/-- A service with one low pin changes that button's field alone, and two such services restore it (R136, R25). -/
def Obligations.OneLowPinTogglesOneFieldAndTwiceRestores : Prop :=
  ∀ (n : Pin) (env : List Instr) (s u t s' u' t' : State), s.started = true →
    (∀ m, pinBit u.lvl m = (m != n)) → (∀ m, pinBit u'.lvl m = (m != n)) → (∀ i ∈ env, i.agent = .env) →
    ServiceRun s u t → execAll env t = .next s' → ServiceRun s' u' t' →
    (n = 0 → t.play = (!s.play) ∧ t.flash = s.flash ∧ t.led = s.led ∧ t'.play = s.play) ∧
    (n = 1 → t.play = s.play ∧ t.flash = s.flash ∧ t.led = s.led ^^^ 0b10#2 ∧ t'.led = s.led) ∧
    (n = 2 → t.play = s.play ∧ t.flash = s.flash ∧ t.led = s.led ^^^ 0b01#2 ∧ t'.led = s.led) ∧
    (n = 3 → t.play = s.play ∧ t.flash = (!s.flash) ∧ (t.led = if s.flash then 0b00#2 else s.led) ∧
      t'.flash = s.flash)

/-- A clean press and release of one button, each serviced, toggles its field once and re-arms the pin (R133, R88). -/
def Obligations.CleanPressAndReleaseTogglesOnce : Prop :=
  ∀ (n : Pin) (m m' : Pins) (s : State), s.started = true → s.svc = .idle → s.gie = true → s.ie = 0b1111#4 →
    s.lvl = 0b1111#4 → s.sense = 0b1111#4 → s.pend = 0b0000#4 →
    clearOk s.cfg.clearScope m (setPinBit 0b0000#4 n true) = true →
    clearOk s.cfg.clearScope m' (setPinBit 0b0000#4 n true) = true →
    ∃ t, execAll ((Pseudo.press n).expand ++ (Pseudo.service m 0b0000#4).expand ++
          (Pseudo.release n).expand ++ (Pseudo.service m' 0b0000#4).expand) s = .next t ∧
      t.lvl = 0b1111#4 ∧ t.sense = 0b1111#4 ∧ t.pend = 0b0000#4 ∧ t.req = false ∧
      t.play = (s.play ^^ decide (n = 0)) ∧ t.flash = (s.flash ^^ decide (n = 3)) ∧
      t.led = (if n = 1 then s.led ^^^ 0b10#2 else if n = 2 then s.led ^^^ 0b01#2
        else if n = 3 ∧ s.flash = true then 0b00#2 else s.led)

/-- With all buttons released, a service at boot changes nothing but pend, for every draw (R247, R230). -/
def Obligations.BootServiceWithNoButtonHeldOnlyClears : Prop :=
  ∀ (cfg : Config) (r m : Pins) (l : Leds), cfg.level0 = 0b1111#4 → r ≠ 0b0000#4 →
    clearOk cfg.clearScope m r = true →
    ∃ t, execAll (.reset r l :: Pseudo.boot.expand ++ (Pseudo.service m 0b0000#4).expand) (State.launch cfg) = .next t ∧
      t.play = false ∧ t.flash = false ∧ t.led = l ∧ t.sense = 0b1111#4 ∧ t.pend = r &&& ~~~m ∧ t.events = [] ∧
      t.snap = some 0b1111#4 ∧ t.lpc = .top ∧ t.svc = .idle

/-- The release of a button held at boot is not latched, and its next press is (R246, R233). -/
def Obligations.HeldButtonsReleaseIsNotLatchedAtBoot : Prop :=
  ∀ (cfg : Config) (r : Pins) (l : Leds) (n : Pin), pinBit cfg.level0 n = false → pinBit r n = false →
    ∃ t u, execAll (.reset r l :: Pseudo.boot.expand ++ (Pseudo.release n).expand) (State.launch cfg) = .next t ∧
      t.pend = r ∧ exec (.pinSet n false) t = .next u ∧ pinBit u.pend n = true

/-- A toggle, split or atomic, that already read flash = 1 lights LEDs again after a service has stopped flash (R243,
R244, R178). That each toggle runs at its position whatever FLASH_TOGGLE_FORM is, is the model's own inference (log
entry 10). -/
def Obligations.StaleFlashReadLightsLedsAfterFlashStop : Prop :=
  (∀ (a : Led) (s u t : State), s.started = true → s.lpc = .ftglA → s.flash = true → ServiceRun s u t →
    pinBit u.lvl 3 = false →
    ∃ w, execAll (Pseudo.flashTick a).expand t = .next w ∧ w.led = 0b11#2 ∧ w.flash = false ∧ w.lpc = .top) ∧
  (∀ (fm : Led) (s u t : State), s.started = true → s.lpc = .ftglB fm → s.flash = true → ServiceRun s u t →
    pinBit u.lvl 3 = false →
    ∃ w, execAll [.loopFlashTgl (0b11#2 ^^^ fm.mask), .loopDelay] t = .next w ∧ w.led = 0b11#2 ^^^ fm.mask ∧
      w.flash = false ∧ w.lpc = .top) ∧
  (∀ s u t : State, s.started = true → s.lpc = .ftgl → s.flash = true → ServiceRun s u t → pinBit u.lvl 3 = false →
    ∃ w, execAll Pseudo.flashTickAtomic.expand t = .next w ∧ w.led = 0b11#2 ∧ w.flash = false ∧ w.lpc = .top)

/-- In every weakly fair run a requested service is eventually entered (R210, R204). -/
def Obligations.RequestedServiceIsEventuallyEntered : Prop :=
  ∀ (st : Nat → State) (op : Nat → Instr) (n : Nat), IsFairRun st op → (st n).started = true → (st n).req = true →
    ∃ m, n ≤ m ∧ op m = .svcEnter

/-- In every weakly fair run a started service eventually ends (R210, R129). -/
def Obligations.StartedServiceEventuallyEnds : Prop :=
  ∀ (st : Nat → State) (op : Nat → Instr) (n : Nat), IsFairRun st op → (st n).started = true → Inv (st n) →
    (st n).svc ≠ .idle → ∃ m, n < m ∧ (st m).svc = .idle

/-- The output signals and the view MODE say what R53 and R32 say of them (R32, R53, R151). -/
def Obligations.OutputSignalsFollowTheState : Prop :=
  (∀ s : State, s.started = true → (s.outputs.svcReq = true ↔ ∃ t, exec .svcEnter s = .next t)) ∧
  (∀ s : State, s.outputs.svcBusy = true ↔ s.svc ≠ .idle) ∧
  (∀ s : State, s.ledOe = true → s.outputs.ledOut = some s.led) ∧
  (∀ s : State, s.ledOe = false → s.outputs.ledOut = none) ∧
  (∀ s : State, s.outputs.playO = s.play ∧ s.outputs.flashO = s.flash) ∧
  (∀ s : State, s.mode.getLsbD 0 = s.play ∧ s.mode.getLsbD 1 = s.flash)

/-- QUIET_ITER is enabled only when play = 0 and flash = 0, and is then one whole loop iteration (R88, R182). That the
condition is tested where the first line is performed is the model's own inference (log entry 21). -/
def Obligations.QuietIterationIsOneWholeIteration : Prop :=
  (∀ (ops : List Instr) (s : State), ¬ (s.play = false ∧ s.flash = false) →
    Pseudo.quietIter.perform ops s = .refused .notEnabled) ∧
  (∀ s : State, s.started = true → s.svc = .idle → s.lpc = .top → s.play = false → s.flash = false →
    Pseudo.quietIter.perform [.loopReadPlay, .loopSetPeriod 0#12, .loopReadFlash] s = .next
      { s with
        tone := some 0#12, events := s.events ++ [.readPlay false, .tone 0#12, .readFlash false], lpc := .top }) ∧
  (∀ (ops : List Instr) (s t : State), s.started = true → (∀ i ∈ ops, i.agent ≠ .seq) →
    Pseudo.quietIter.perform ops s = .next t →
    t = { s with
      lvl := t.lvl, pend := t.pend, tone := some 0#12,
      events := s.events ++ [.readPlay false, .tone 0#12, .readFlash false], lpc := .top }) ∧
  (∀ (p : Pseudo) (ops : List Instr) (s : State), p ≠ .quietIter → p.spelledBy ops = true →
    p.perform ops s = execAll ops s)

/-- Each input signal of R53 stands for its operation, and the fields it drives follow it (R53). The input signals are
a view of the operation and the state and add no behaviour (log entry 20). -/
def Obligations.InputSignalsDriveTheirEffects : Prop :=
  (∀ (i : Instr) (s : State),
    ((inputsOf i s).rst = true ↔ ∃ r l, i = .reset r l) ∧
    ((inputsOf i s).cfgSw = true ↔ i = .bootSwCfg) ∧
    ((inputsOf i s).cfgLed = true ↔ i = .bootLedCfg) ∧
    ((inputsOf i s).gieSet = true ↔ i = .bootGie) ∧
    (∀ n v, (inputsOf i s).swChange = some (n, v) ↔ i = .pinSet n v) ∧
    (∀ m, pinBit (inputsOf i s).swIn m =
      match (inputsOf i s).swChange with
      | some (n, v) => if m = n then v else pinBit s.lvl m
      | none => pinBit s.lvl m) ∧
    ((inputsOf i s).swIn ≠ s.lvl → ∃ n, i = .pinSet n (!pinBit s.lvl n)) ∧
    (∀ m, m ≠ 0b00#2 → ((inputsOf i s).loopTgl = m ↔ i = .loopFlashTgl m))) ∧
  (∀ (i : Instr) (s t : State), s.started = true → exec i s = .next t →
    t.lvl = (inputsOf i s).swIn ∧
    t.swcfg = (s.swcfg || (inputsOf i s).cfgSw) ∧
    t.ledOe = (s.ledOe || (inputsOf i s).cfgLed) ∧
    t.gie = (s.gie || (inputsOf i s).gieSet) ∧
    (s.svc = .idle → t.led = s.led ^^^ (inputsOf i s).loopTgl))

/-- Over any run led is the composition, in run order, of every primitive the run performed: no write is lost (R155).
-/
def Obligations.LedIsTheCompositionOfItsWrites : Prop :=
  (∀ (ops : List Instr) (s t : State), s.started = true → execAll ops s = .next t →
    t.led = (ledWrites ops s).foldl (fun v w => w.apply v) s.led) ∧
  (∀ (cfg : Config) (r : Pins) (l : Leds) (ops : List Instr) (t : State),
    execAll (.reset r l :: ops) (State.launch cfg) = .next t →
    t.led = (ledWrites (.reset r l :: ops) (State.launch cfg)).foldl (fun v w => w.apply v) l)
end

