-- ==== Sys2Proof/Laws/State.lean ====
section
/-!
SUPPORT. One lemma per field per single-field update of `State`, each true by `rfl`, so that no later proof unfolds a record
update.
-/

namespace Sys2Proof.Machine

section SetStarted
variable (s : State) (v : Bool)
@[simp] theorem State.setStarted_cfg : (s.setStarted v).cfg = s.cfg := rfl
@[simp] theorem State.setStarted_started : (s.setStarted v).started = v := rfl
@[simp] theorem State.setStarted_trace : (s.setStarted v).trace = s.trace := rfl
@[simp] theorem State.setStarted_lvl : (s.setStarted v).lvl = s.lvl := rfl
@[simp] theorem State.setStarted_swcfg : (s.setStarted v).swcfg = s.swcfg := rfl
@[simp] theorem State.setStarted_sense : (s.setStarted v).sense = s.sense := rfl
@[simp] theorem State.setStarted_pend : (s.setStarted v).pend = s.pend := rfl
@[simp] theorem State.setStarted_ie : (s.setStarted v).ie = s.ie := rfl
@[simp] theorem State.setStarted_gie : (s.setStarted v).gie = s.gie := rfl
@[simp] theorem State.setStarted_play : (s.setStarted v).play = s.play := rfl
@[simp] theorem State.setStarted_flash : (s.setStarted v).flash = s.flash := rfl
@[simp] theorem State.setStarted_led : (s.setStarted v).led = s.led := rfl
@[simp] theorem State.setStarted_ledOe : (s.setStarted v).ledOe = s.ledOe := rfl
@[simp] theorem State.setStarted_svc : (s.setStarted v).svc = s.svc := rfl
@[simp] theorem State.setStarted_seen : (s.setStarted v).seen = s.seen := rfl
@[simp] theorem State.setStarted_snap : (s.setStarted v).snap = s.snap := rfl
@[simp] theorem State.setStarted_lpc : (s.setStarted v).lpc = s.lpc := rfl
@[simp] theorem State.setStarted_tone : (s.setStarted v).tone = s.tone := rfl
@[simp] theorem State.setStarted_events : (s.setStarted v).events = s.events := rfl
end SetStarted

section SetTrace
variable (s : State) (v : List Word)
@[simp] theorem State.setTrace_cfg : (s.setTrace v).cfg = s.cfg := rfl
@[simp] theorem State.setTrace_started : (s.setTrace v).started = s.started := rfl
@[simp] theorem State.setTrace_trace : (s.setTrace v).trace = v := rfl
@[simp] theorem State.setTrace_lvl : (s.setTrace v).lvl = s.lvl := rfl
@[simp] theorem State.setTrace_swcfg : (s.setTrace v).swcfg = s.swcfg := rfl
@[simp] theorem State.setTrace_sense : (s.setTrace v).sense = s.sense := rfl
@[simp] theorem State.setTrace_pend : (s.setTrace v).pend = s.pend := rfl
@[simp] theorem State.setTrace_ie : (s.setTrace v).ie = s.ie := rfl
@[simp] theorem State.setTrace_gie : (s.setTrace v).gie = s.gie := rfl
@[simp] theorem State.setTrace_play : (s.setTrace v).play = s.play := rfl
@[simp] theorem State.setTrace_flash : (s.setTrace v).flash = s.flash := rfl
@[simp] theorem State.setTrace_led : (s.setTrace v).led = s.led := rfl
@[simp] theorem State.setTrace_ledOe : (s.setTrace v).ledOe = s.ledOe := rfl
@[simp] theorem State.setTrace_svc : (s.setTrace v).svc = s.svc := rfl
@[simp] theorem State.setTrace_seen : (s.setTrace v).seen = s.seen := rfl
@[simp] theorem State.setTrace_snap : (s.setTrace v).snap = s.snap := rfl
@[simp] theorem State.setTrace_lpc : (s.setTrace v).lpc = s.lpc := rfl
@[simp] theorem State.setTrace_tone : (s.setTrace v).tone = s.tone := rfl
@[simp] theorem State.setTrace_events : (s.setTrace v).events = s.events := rfl
end SetTrace

section SetLvl
variable (s : State) (v : Pins)
@[simp] theorem State.setLvl_cfg : (s.setLvl v).cfg = s.cfg := rfl
@[simp] theorem State.setLvl_started : (s.setLvl v).started = s.started := rfl
@[simp] theorem State.setLvl_trace : (s.setLvl v).trace = s.trace := rfl
@[simp] theorem State.setLvl_lvl : (s.setLvl v).lvl = v := rfl
@[simp] theorem State.setLvl_swcfg : (s.setLvl v).swcfg = s.swcfg := rfl
@[simp] theorem State.setLvl_sense : (s.setLvl v).sense = s.sense := rfl
@[simp] theorem State.setLvl_pend : (s.setLvl v).pend = s.pend := rfl
@[simp] theorem State.setLvl_ie : (s.setLvl v).ie = s.ie := rfl
@[simp] theorem State.setLvl_gie : (s.setLvl v).gie = s.gie := rfl
@[simp] theorem State.setLvl_play : (s.setLvl v).play = s.play := rfl
@[simp] theorem State.setLvl_flash : (s.setLvl v).flash = s.flash := rfl
@[simp] theorem State.setLvl_led : (s.setLvl v).led = s.led := rfl
@[simp] theorem State.setLvl_ledOe : (s.setLvl v).ledOe = s.ledOe := rfl
@[simp] theorem State.setLvl_svc : (s.setLvl v).svc = s.svc := rfl
@[simp] theorem State.setLvl_seen : (s.setLvl v).seen = s.seen := rfl
@[simp] theorem State.setLvl_snap : (s.setLvl v).snap = s.snap := rfl
@[simp] theorem State.setLvl_lpc : (s.setLvl v).lpc = s.lpc := rfl
@[simp] theorem State.setLvl_tone : (s.setLvl v).tone = s.tone := rfl
@[simp] theorem State.setLvl_events : (s.setLvl v).events = s.events := rfl
end SetLvl

section SetSwcfg
variable (s : State) (v : Bool)
@[simp] theorem State.setSwcfg_cfg : (s.setSwcfg v).cfg = s.cfg := rfl
@[simp] theorem State.setSwcfg_started : (s.setSwcfg v).started = s.started := rfl
@[simp] theorem State.setSwcfg_trace : (s.setSwcfg v).trace = s.trace := rfl
@[simp] theorem State.setSwcfg_lvl : (s.setSwcfg v).lvl = s.lvl := rfl
@[simp] theorem State.setSwcfg_swcfg : (s.setSwcfg v).swcfg = v := rfl
@[simp] theorem State.setSwcfg_sense : (s.setSwcfg v).sense = s.sense := rfl
@[simp] theorem State.setSwcfg_pend : (s.setSwcfg v).pend = s.pend := rfl
@[simp] theorem State.setSwcfg_ie : (s.setSwcfg v).ie = s.ie := rfl
@[simp] theorem State.setSwcfg_gie : (s.setSwcfg v).gie = s.gie := rfl
@[simp] theorem State.setSwcfg_play : (s.setSwcfg v).play = s.play := rfl
@[simp] theorem State.setSwcfg_flash : (s.setSwcfg v).flash = s.flash := rfl
@[simp] theorem State.setSwcfg_led : (s.setSwcfg v).led = s.led := rfl
@[simp] theorem State.setSwcfg_ledOe : (s.setSwcfg v).ledOe = s.ledOe := rfl
@[simp] theorem State.setSwcfg_svc : (s.setSwcfg v).svc = s.svc := rfl
@[simp] theorem State.setSwcfg_seen : (s.setSwcfg v).seen = s.seen := rfl
@[simp] theorem State.setSwcfg_snap : (s.setSwcfg v).snap = s.snap := rfl
@[simp] theorem State.setSwcfg_lpc : (s.setSwcfg v).lpc = s.lpc := rfl
@[simp] theorem State.setSwcfg_tone : (s.setSwcfg v).tone = s.tone := rfl
@[simp] theorem State.setSwcfg_events : (s.setSwcfg v).events = s.events := rfl
end SetSwcfg

section SetSense
variable (s : State) (v : Pins)
@[simp] theorem State.setSense_cfg : (s.setSense v).cfg = s.cfg := rfl
@[simp] theorem State.setSense_started : (s.setSense v).started = s.started := rfl
@[simp] theorem State.setSense_trace : (s.setSense v).trace = s.trace := rfl
@[simp] theorem State.setSense_lvl : (s.setSense v).lvl = s.lvl := rfl
@[simp] theorem State.setSense_swcfg : (s.setSense v).swcfg = s.swcfg := rfl
@[simp] theorem State.setSense_sense : (s.setSense v).sense = v := rfl
@[simp] theorem State.setSense_pend : (s.setSense v).pend = s.pend := rfl
@[simp] theorem State.setSense_ie : (s.setSense v).ie = s.ie := rfl
@[simp] theorem State.setSense_gie : (s.setSense v).gie = s.gie := rfl
@[simp] theorem State.setSense_play : (s.setSense v).play = s.play := rfl
@[simp] theorem State.setSense_flash : (s.setSense v).flash = s.flash := rfl
@[simp] theorem State.setSense_led : (s.setSense v).led = s.led := rfl
@[simp] theorem State.setSense_ledOe : (s.setSense v).ledOe = s.ledOe := rfl
@[simp] theorem State.setSense_svc : (s.setSense v).svc = s.svc := rfl
@[simp] theorem State.setSense_seen : (s.setSense v).seen = s.seen := rfl
@[simp] theorem State.setSense_snap : (s.setSense v).snap = s.snap := rfl
@[simp] theorem State.setSense_lpc : (s.setSense v).lpc = s.lpc := rfl
@[simp] theorem State.setSense_tone : (s.setSense v).tone = s.tone := rfl
@[simp] theorem State.setSense_events : (s.setSense v).events = s.events := rfl
end SetSense

section SetPend
variable (s : State) (v : Pins)
@[simp] theorem State.setPend_cfg : (s.setPend v).cfg = s.cfg := rfl
@[simp] theorem State.setPend_started : (s.setPend v).started = s.started := rfl
@[simp] theorem State.setPend_trace : (s.setPend v).trace = s.trace := rfl
@[simp] theorem State.setPend_lvl : (s.setPend v).lvl = s.lvl := rfl
@[simp] theorem State.setPend_swcfg : (s.setPend v).swcfg = s.swcfg := rfl
@[simp] theorem State.setPend_sense : (s.setPend v).sense = s.sense := rfl
@[simp] theorem State.setPend_pend : (s.setPend v).pend = v := rfl
@[simp] theorem State.setPend_ie : (s.setPend v).ie = s.ie := rfl
@[simp] theorem State.setPend_gie : (s.setPend v).gie = s.gie := rfl
@[simp] theorem State.setPend_play : (s.setPend v).play = s.play := rfl
@[simp] theorem State.setPend_flash : (s.setPend v).flash = s.flash := rfl
@[simp] theorem State.setPend_led : (s.setPend v).led = s.led := rfl
@[simp] theorem State.setPend_ledOe : (s.setPend v).ledOe = s.ledOe := rfl
@[simp] theorem State.setPend_svc : (s.setPend v).svc = s.svc := rfl
@[simp] theorem State.setPend_seen : (s.setPend v).seen = s.seen := rfl
@[simp] theorem State.setPend_snap : (s.setPend v).snap = s.snap := rfl
@[simp] theorem State.setPend_lpc : (s.setPend v).lpc = s.lpc := rfl
@[simp] theorem State.setPend_tone : (s.setPend v).tone = s.tone := rfl
@[simp] theorem State.setPend_events : (s.setPend v).events = s.events := rfl
end SetPend

section SetIe
variable (s : State) (v : Pins)
@[simp] theorem State.setIe_cfg : (s.setIe v).cfg = s.cfg := rfl
@[simp] theorem State.setIe_started : (s.setIe v).started = s.started := rfl
@[simp] theorem State.setIe_trace : (s.setIe v).trace = s.trace := rfl
@[simp] theorem State.setIe_lvl : (s.setIe v).lvl = s.lvl := rfl
@[simp] theorem State.setIe_swcfg : (s.setIe v).swcfg = s.swcfg := rfl
@[simp] theorem State.setIe_sense : (s.setIe v).sense = s.sense := rfl
@[simp] theorem State.setIe_pend : (s.setIe v).pend = s.pend := rfl
@[simp] theorem State.setIe_ie : (s.setIe v).ie = v := rfl
@[simp] theorem State.setIe_gie : (s.setIe v).gie = s.gie := rfl
@[simp] theorem State.setIe_play : (s.setIe v).play = s.play := rfl
@[simp] theorem State.setIe_flash : (s.setIe v).flash = s.flash := rfl
@[simp] theorem State.setIe_led : (s.setIe v).led = s.led := rfl
@[simp] theorem State.setIe_ledOe : (s.setIe v).ledOe = s.ledOe := rfl
@[simp] theorem State.setIe_svc : (s.setIe v).svc = s.svc := rfl
@[simp] theorem State.setIe_seen : (s.setIe v).seen = s.seen := rfl
@[simp] theorem State.setIe_snap : (s.setIe v).snap = s.snap := rfl
@[simp] theorem State.setIe_lpc : (s.setIe v).lpc = s.lpc := rfl
@[simp] theorem State.setIe_tone : (s.setIe v).tone = s.tone := rfl
@[simp] theorem State.setIe_events : (s.setIe v).events = s.events := rfl
end SetIe

section SetGie
variable (s : State) (v : Bool)
@[simp] theorem State.setGie_cfg : (s.setGie v).cfg = s.cfg := rfl
@[simp] theorem State.setGie_started : (s.setGie v).started = s.started := rfl
@[simp] theorem State.setGie_trace : (s.setGie v).trace = s.trace := rfl
@[simp] theorem State.setGie_lvl : (s.setGie v).lvl = s.lvl := rfl
@[simp] theorem State.setGie_swcfg : (s.setGie v).swcfg = s.swcfg := rfl
@[simp] theorem State.setGie_sense : (s.setGie v).sense = s.sense := rfl
@[simp] theorem State.setGie_pend : (s.setGie v).pend = s.pend := rfl
@[simp] theorem State.setGie_ie : (s.setGie v).ie = s.ie := rfl
@[simp] theorem State.setGie_gie : (s.setGie v).gie = v := rfl
@[simp] theorem State.setGie_play : (s.setGie v).play = s.play := rfl
@[simp] theorem State.setGie_flash : (s.setGie v).flash = s.flash := rfl
@[simp] theorem State.setGie_led : (s.setGie v).led = s.led := rfl
@[simp] theorem State.setGie_ledOe : (s.setGie v).ledOe = s.ledOe := rfl
@[simp] theorem State.setGie_svc : (s.setGie v).svc = s.svc := rfl
@[simp] theorem State.setGie_seen : (s.setGie v).seen = s.seen := rfl
@[simp] theorem State.setGie_snap : (s.setGie v).snap = s.snap := rfl
@[simp] theorem State.setGie_lpc : (s.setGie v).lpc = s.lpc := rfl
@[simp] theorem State.setGie_tone : (s.setGie v).tone = s.tone := rfl
@[simp] theorem State.setGie_events : (s.setGie v).events = s.events := rfl
end SetGie

section SetPlay
variable (s : State) (v : Bool)
@[simp] theorem State.setPlay_cfg : (s.setPlay v).cfg = s.cfg := rfl
@[simp] theorem State.setPlay_started : (s.setPlay v).started = s.started := rfl
@[simp] theorem State.setPlay_trace : (s.setPlay v).trace = s.trace := rfl
@[simp] theorem State.setPlay_lvl : (s.setPlay v).lvl = s.lvl := rfl
@[simp] theorem State.setPlay_swcfg : (s.setPlay v).swcfg = s.swcfg := rfl
@[simp] theorem State.setPlay_sense : (s.setPlay v).sense = s.sense := rfl
@[simp] theorem State.setPlay_pend : (s.setPlay v).pend = s.pend := rfl
@[simp] theorem State.setPlay_ie : (s.setPlay v).ie = s.ie := rfl
@[simp] theorem State.setPlay_gie : (s.setPlay v).gie = s.gie := rfl
@[simp] theorem State.setPlay_play : (s.setPlay v).play = v := rfl
@[simp] theorem State.setPlay_flash : (s.setPlay v).flash = s.flash := rfl
@[simp] theorem State.setPlay_led : (s.setPlay v).led = s.led := rfl
@[simp] theorem State.setPlay_ledOe : (s.setPlay v).ledOe = s.ledOe := rfl
@[simp] theorem State.setPlay_svc : (s.setPlay v).svc = s.svc := rfl
@[simp] theorem State.setPlay_seen : (s.setPlay v).seen = s.seen := rfl
@[simp] theorem State.setPlay_snap : (s.setPlay v).snap = s.snap := rfl
@[simp] theorem State.setPlay_lpc : (s.setPlay v).lpc = s.lpc := rfl
@[simp] theorem State.setPlay_tone : (s.setPlay v).tone = s.tone := rfl
@[simp] theorem State.setPlay_events : (s.setPlay v).events = s.events := rfl
end SetPlay

section SetFlash
variable (s : State) (v : Bool)
@[simp] theorem State.setFlash_cfg : (s.setFlash v).cfg = s.cfg := rfl
@[simp] theorem State.setFlash_started : (s.setFlash v).started = s.started := rfl
@[simp] theorem State.setFlash_trace : (s.setFlash v).trace = s.trace := rfl
@[simp] theorem State.setFlash_lvl : (s.setFlash v).lvl = s.lvl := rfl
@[simp] theorem State.setFlash_swcfg : (s.setFlash v).swcfg = s.swcfg := rfl
@[simp] theorem State.setFlash_sense : (s.setFlash v).sense = s.sense := rfl
@[simp] theorem State.setFlash_pend : (s.setFlash v).pend = s.pend := rfl
@[simp] theorem State.setFlash_ie : (s.setFlash v).ie = s.ie := rfl
@[simp] theorem State.setFlash_gie : (s.setFlash v).gie = s.gie := rfl
@[simp] theorem State.setFlash_play : (s.setFlash v).play = s.play := rfl
@[simp] theorem State.setFlash_flash : (s.setFlash v).flash = v := rfl
@[simp] theorem State.setFlash_led : (s.setFlash v).led = s.led := rfl
@[simp] theorem State.setFlash_ledOe : (s.setFlash v).ledOe = s.ledOe := rfl
@[simp] theorem State.setFlash_svc : (s.setFlash v).svc = s.svc := rfl
@[simp] theorem State.setFlash_seen : (s.setFlash v).seen = s.seen := rfl
@[simp] theorem State.setFlash_snap : (s.setFlash v).snap = s.snap := rfl
@[simp] theorem State.setFlash_lpc : (s.setFlash v).lpc = s.lpc := rfl
@[simp] theorem State.setFlash_tone : (s.setFlash v).tone = s.tone := rfl
@[simp] theorem State.setFlash_events : (s.setFlash v).events = s.events := rfl
end SetFlash

section SetLed
variable (s : State) (v : Leds)
@[simp] theorem State.setLed_cfg : (s.setLed v).cfg = s.cfg := rfl
@[simp] theorem State.setLed_started : (s.setLed v).started = s.started := rfl
@[simp] theorem State.setLed_trace : (s.setLed v).trace = s.trace := rfl
@[simp] theorem State.setLed_lvl : (s.setLed v).lvl = s.lvl := rfl
@[simp] theorem State.setLed_swcfg : (s.setLed v).swcfg = s.swcfg := rfl
@[simp] theorem State.setLed_sense : (s.setLed v).sense = s.sense := rfl
@[simp] theorem State.setLed_pend : (s.setLed v).pend = s.pend := rfl
@[simp] theorem State.setLed_ie : (s.setLed v).ie = s.ie := rfl
@[simp] theorem State.setLed_gie : (s.setLed v).gie = s.gie := rfl
@[simp] theorem State.setLed_play : (s.setLed v).play = s.play := rfl
@[simp] theorem State.setLed_flash : (s.setLed v).flash = s.flash := rfl
@[simp] theorem State.setLed_led : (s.setLed v).led = v := rfl
@[simp] theorem State.setLed_ledOe : (s.setLed v).ledOe = s.ledOe := rfl
@[simp] theorem State.setLed_svc : (s.setLed v).svc = s.svc := rfl
@[simp] theorem State.setLed_seen : (s.setLed v).seen = s.seen := rfl
@[simp] theorem State.setLed_snap : (s.setLed v).snap = s.snap := rfl
@[simp] theorem State.setLed_lpc : (s.setLed v).lpc = s.lpc := rfl
@[simp] theorem State.setLed_tone : (s.setLed v).tone = s.tone := rfl
@[simp] theorem State.setLed_events : (s.setLed v).events = s.events := rfl
end SetLed

section SetLedOe
variable (s : State) (v : Bool)
@[simp] theorem State.setLedOe_cfg : (s.setLedOe v).cfg = s.cfg := rfl
@[simp] theorem State.setLedOe_started : (s.setLedOe v).started = s.started := rfl
@[simp] theorem State.setLedOe_trace : (s.setLedOe v).trace = s.trace := rfl
@[simp] theorem State.setLedOe_lvl : (s.setLedOe v).lvl = s.lvl := rfl
@[simp] theorem State.setLedOe_swcfg : (s.setLedOe v).swcfg = s.swcfg := rfl
@[simp] theorem State.setLedOe_sense : (s.setLedOe v).sense = s.sense := rfl
@[simp] theorem State.setLedOe_pend : (s.setLedOe v).pend = s.pend := rfl
@[simp] theorem State.setLedOe_ie : (s.setLedOe v).ie = s.ie := rfl
@[simp] theorem State.setLedOe_gie : (s.setLedOe v).gie = s.gie := rfl
@[simp] theorem State.setLedOe_play : (s.setLedOe v).play = s.play := rfl
@[simp] theorem State.setLedOe_flash : (s.setLedOe v).flash = s.flash := rfl
@[simp] theorem State.setLedOe_led : (s.setLedOe v).led = s.led := rfl
@[simp] theorem State.setLedOe_ledOe : (s.setLedOe v).ledOe = v := rfl
@[simp] theorem State.setLedOe_svc : (s.setLedOe v).svc = s.svc := rfl
@[simp] theorem State.setLedOe_seen : (s.setLedOe v).seen = s.seen := rfl
@[simp] theorem State.setLedOe_snap : (s.setLedOe v).snap = s.snap := rfl
@[simp] theorem State.setLedOe_lpc : (s.setLedOe v).lpc = s.lpc := rfl
@[simp] theorem State.setLedOe_tone : (s.setLedOe v).tone = s.tone := rfl
@[simp] theorem State.setLedOe_events : (s.setLedOe v).events = s.events := rfl
end SetLedOe

section SetSvc
variable (s : State) (v : SvcPos)
@[simp] theorem State.setSvc_cfg : (s.setSvc v).cfg = s.cfg := rfl
@[simp] theorem State.setSvc_started : (s.setSvc v).started = s.started := rfl
@[simp] theorem State.setSvc_trace : (s.setSvc v).trace = s.trace := rfl
@[simp] theorem State.setSvc_lvl : (s.setSvc v).lvl = s.lvl := rfl
@[simp] theorem State.setSvc_swcfg : (s.setSvc v).swcfg = s.swcfg := rfl
@[simp] theorem State.setSvc_sense : (s.setSvc v).sense = s.sense := rfl
@[simp] theorem State.setSvc_pend : (s.setSvc v).pend = s.pend := rfl
@[simp] theorem State.setSvc_ie : (s.setSvc v).ie = s.ie := rfl
@[simp] theorem State.setSvc_gie : (s.setSvc v).gie = s.gie := rfl
@[simp] theorem State.setSvc_play : (s.setSvc v).play = s.play := rfl
@[simp] theorem State.setSvc_flash : (s.setSvc v).flash = s.flash := rfl
@[simp] theorem State.setSvc_led : (s.setSvc v).led = s.led := rfl
@[simp] theorem State.setSvc_ledOe : (s.setSvc v).ledOe = s.ledOe := rfl
@[simp] theorem State.setSvc_svc : (s.setSvc v).svc = v := rfl
@[simp] theorem State.setSvc_seen : (s.setSvc v).seen = s.seen := rfl
@[simp] theorem State.setSvc_snap : (s.setSvc v).snap = s.snap := rfl
@[simp] theorem State.setSvc_lpc : (s.setSvc v).lpc = s.lpc := rfl
@[simp] theorem State.setSvc_tone : (s.setSvc v).tone = s.tone := rfl
@[simp] theorem State.setSvc_events : (s.setSvc v).events = s.events := rfl
end SetSvc

section SetSeen
variable (s : State) (v : Option Pins)
@[simp] theorem State.setSeen_cfg : (s.setSeen v).cfg = s.cfg := rfl
@[simp] theorem State.setSeen_started : (s.setSeen v).started = s.started := rfl
@[simp] theorem State.setSeen_trace : (s.setSeen v).trace = s.trace := rfl
@[simp] theorem State.setSeen_lvl : (s.setSeen v).lvl = s.lvl := rfl
@[simp] theorem State.setSeen_swcfg : (s.setSeen v).swcfg = s.swcfg := rfl
@[simp] theorem State.setSeen_sense : (s.setSeen v).sense = s.sense := rfl
@[simp] theorem State.setSeen_pend : (s.setSeen v).pend = s.pend := rfl
@[simp] theorem State.setSeen_ie : (s.setSeen v).ie = s.ie := rfl
@[simp] theorem State.setSeen_gie : (s.setSeen v).gie = s.gie := rfl
@[simp] theorem State.setSeen_play : (s.setSeen v).play = s.play := rfl
@[simp] theorem State.setSeen_flash : (s.setSeen v).flash = s.flash := rfl
@[simp] theorem State.setSeen_led : (s.setSeen v).led = s.led := rfl
@[simp] theorem State.setSeen_ledOe : (s.setSeen v).ledOe = s.ledOe := rfl
@[simp] theorem State.setSeen_svc : (s.setSeen v).svc = s.svc := rfl
@[simp] theorem State.setSeen_seen : (s.setSeen v).seen = v := rfl
@[simp] theorem State.setSeen_snap : (s.setSeen v).snap = s.snap := rfl
@[simp] theorem State.setSeen_lpc : (s.setSeen v).lpc = s.lpc := rfl
@[simp] theorem State.setSeen_tone : (s.setSeen v).tone = s.tone := rfl
@[simp] theorem State.setSeen_events : (s.setSeen v).events = s.events := rfl
end SetSeen

section SetSnap
variable (s : State) (v : Option Pins)
@[simp] theorem State.setSnap_cfg : (s.setSnap v).cfg = s.cfg := rfl
@[simp] theorem State.setSnap_started : (s.setSnap v).started = s.started := rfl
@[simp] theorem State.setSnap_trace : (s.setSnap v).trace = s.trace := rfl
@[simp] theorem State.setSnap_lvl : (s.setSnap v).lvl = s.lvl := rfl
@[simp] theorem State.setSnap_swcfg : (s.setSnap v).swcfg = s.swcfg := rfl
@[simp] theorem State.setSnap_sense : (s.setSnap v).sense = s.sense := rfl
@[simp] theorem State.setSnap_pend : (s.setSnap v).pend = s.pend := rfl
@[simp] theorem State.setSnap_ie : (s.setSnap v).ie = s.ie := rfl
@[simp] theorem State.setSnap_gie : (s.setSnap v).gie = s.gie := rfl
@[simp] theorem State.setSnap_play : (s.setSnap v).play = s.play := rfl
@[simp] theorem State.setSnap_flash : (s.setSnap v).flash = s.flash := rfl
@[simp] theorem State.setSnap_led : (s.setSnap v).led = s.led := rfl
@[simp] theorem State.setSnap_ledOe : (s.setSnap v).ledOe = s.ledOe := rfl
@[simp] theorem State.setSnap_svc : (s.setSnap v).svc = s.svc := rfl
@[simp] theorem State.setSnap_seen : (s.setSnap v).seen = s.seen := rfl
@[simp] theorem State.setSnap_snap : (s.setSnap v).snap = v := rfl
@[simp] theorem State.setSnap_lpc : (s.setSnap v).lpc = s.lpc := rfl
@[simp] theorem State.setSnap_tone : (s.setSnap v).tone = s.tone := rfl
@[simp] theorem State.setSnap_events : (s.setSnap v).events = s.events := rfl
end SetSnap

section SetLpc
variable (s : State) (v : LoopPos)
@[simp] theorem State.setLpc_cfg : (s.setLpc v).cfg = s.cfg := rfl
@[simp] theorem State.setLpc_started : (s.setLpc v).started = s.started := rfl
@[simp] theorem State.setLpc_trace : (s.setLpc v).trace = s.trace := rfl
@[simp] theorem State.setLpc_lvl : (s.setLpc v).lvl = s.lvl := rfl
@[simp] theorem State.setLpc_swcfg : (s.setLpc v).swcfg = s.swcfg := rfl
@[simp] theorem State.setLpc_sense : (s.setLpc v).sense = s.sense := rfl
@[simp] theorem State.setLpc_pend : (s.setLpc v).pend = s.pend := rfl
@[simp] theorem State.setLpc_ie : (s.setLpc v).ie = s.ie := rfl
@[simp] theorem State.setLpc_gie : (s.setLpc v).gie = s.gie := rfl
@[simp] theorem State.setLpc_play : (s.setLpc v).play = s.play := rfl
@[simp] theorem State.setLpc_flash : (s.setLpc v).flash = s.flash := rfl
@[simp] theorem State.setLpc_led : (s.setLpc v).led = s.led := rfl
@[simp] theorem State.setLpc_ledOe : (s.setLpc v).ledOe = s.ledOe := rfl
@[simp] theorem State.setLpc_svc : (s.setLpc v).svc = s.svc := rfl
@[simp] theorem State.setLpc_seen : (s.setLpc v).seen = s.seen := rfl
@[simp] theorem State.setLpc_snap : (s.setLpc v).snap = s.snap := rfl
@[simp] theorem State.setLpc_lpc : (s.setLpc v).lpc = v := rfl
@[simp] theorem State.setLpc_tone : (s.setLpc v).tone = s.tone := rfl
@[simp] theorem State.setLpc_events : (s.setLpc v).events = s.events := rfl
end SetLpc

section SetTone
variable (s : State) (v : Option Period)
@[simp] theorem State.setTone_cfg : (s.setTone v).cfg = s.cfg := rfl
@[simp] theorem State.setTone_started : (s.setTone v).started = s.started := rfl
@[simp] theorem State.setTone_trace : (s.setTone v).trace = s.trace := rfl
@[simp] theorem State.setTone_lvl : (s.setTone v).lvl = s.lvl := rfl
@[simp] theorem State.setTone_swcfg : (s.setTone v).swcfg = s.swcfg := rfl
@[simp] theorem State.setTone_sense : (s.setTone v).sense = s.sense := rfl
@[simp] theorem State.setTone_pend : (s.setTone v).pend = s.pend := rfl
@[simp] theorem State.setTone_ie : (s.setTone v).ie = s.ie := rfl
@[simp] theorem State.setTone_gie : (s.setTone v).gie = s.gie := rfl
@[simp] theorem State.setTone_play : (s.setTone v).play = s.play := rfl
@[simp] theorem State.setTone_flash : (s.setTone v).flash = s.flash := rfl
@[simp] theorem State.setTone_led : (s.setTone v).led = s.led := rfl
@[simp] theorem State.setTone_ledOe : (s.setTone v).ledOe = s.ledOe := rfl
@[simp] theorem State.setTone_svc : (s.setTone v).svc = s.svc := rfl
@[simp] theorem State.setTone_seen : (s.setTone v).seen = s.seen := rfl
@[simp] theorem State.setTone_snap : (s.setTone v).snap = s.snap := rfl
@[simp] theorem State.setTone_lpc : (s.setTone v).lpc = s.lpc := rfl
@[simp] theorem State.setTone_tone : (s.setTone v).tone = v := rfl
@[simp] theorem State.setTone_events : (s.setTone v).events = s.events := rfl
end SetTone

section SetEvents
variable (s : State) (v : List Event)
@[simp] theorem State.setEvents_cfg : (s.setEvents v).cfg = s.cfg := rfl
@[simp] theorem State.setEvents_started : (s.setEvents v).started = s.started := rfl
@[simp] theorem State.setEvents_trace : (s.setEvents v).trace = s.trace := rfl
@[simp] theorem State.setEvents_lvl : (s.setEvents v).lvl = s.lvl := rfl
@[simp] theorem State.setEvents_swcfg : (s.setEvents v).swcfg = s.swcfg := rfl
@[simp] theorem State.setEvents_sense : (s.setEvents v).sense = s.sense := rfl
@[simp] theorem State.setEvents_pend : (s.setEvents v).pend = s.pend := rfl
@[simp] theorem State.setEvents_ie : (s.setEvents v).ie = s.ie := rfl
@[simp] theorem State.setEvents_gie : (s.setEvents v).gie = s.gie := rfl
@[simp] theorem State.setEvents_play : (s.setEvents v).play = s.play := rfl
@[simp] theorem State.setEvents_flash : (s.setEvents v).flash = s.flash := rfl
@[simp] theorem State.setEvents_led : (s.setEvents v).led = s.led := rfl
@[simp] theorem State.setEvents_ledOe : (s.setEvents v).ledOe = s.ledOe := rfl
@[simp] theorem State.setEvents_svc : (s.setEvents v).svc = s.svc := rfl
@[simp] theorem State.setEvents_seen : (s.setEvents v).seen = s.seen := rfl
@[simp] theorem State.setEvents_snap : (s.setEvents v).snap = s.snap := rfl
@[simp] theorem State.setEvents_lpc : (s.setEvents v).lpc = s.lpc := rfl
@[simp] theorem State.setEvents_tone : (s.setEvents v).tone = s.tone := rfl
@[simp] theorem State.setEvents_events : (s.setEvents v).events = v := rfl
end SetEvents

end Sys2Proof.Machine
end

