-- ==== Sys2Proof/Laws/Ops.lean ====
section
/-!
SUPPORT. What each shared operation of the machine can do, once: when it answers a next state, and which fields it leaves.
-/

namespace Sys2Proof.Machine

/-- `guard` answers a next state exactly when its condition holds and what it guards does (R11). -/
theorem guarded_next_iff {c : Bool} {k : Result} {t : State} :
    guarded c k = .next t ↔ c = true ∧ k = .next t := by
  cases c <;> simp [guarded]

/-- `guard` faults exactly when its condition holds and what it guards faults. -/
theorem guarded_fault_iff {c : Bool} {k : Result} {f : Fault} :
    guarded c k = .fault f ↔ c = true ∧ k = .fault f := by
  cases c <;> simp [guarded]

@[simp] theorem guarded_true (k : Result) : guarded true k = k := rfl
@[simp] theorem guarded_false (k : Result) : guarded false k = .refused .notEnabled := rfl

/-- Reading a field answers a next state exactly when it is set and what follows does (R57). -/
theorem readSet_next_iff {field : Option Pins} {k : Pins → Result} {t : State} :
    readSet field k = .next t ↔ ∃ v, field = some v ∧ k v = .next t := by
  cases field <;> simp [readSet]

@[simp] theorem readSet_some (v : Pins) (k : Pins → Result) : readSet (some v) k = k v := rfl
@[simp] theorem readSet_none (k : Pins → Result) : readSet none k = .fault .unsetRead := rfl

/-- The loop advances exactly when its operand leads somewhere. -/
theorem advanceLoop_next_iff {target : Option LoopPos} {k : LoopPos → State} {t : State} :
    advanceLoop target k = .next t ↔ ∃ p, target = some p ∧ t = k p := by
  cases target <;> simp [advanceLoop, eq_comm]

theorem advanceLoop_ne_fault {target : Option LoopPos} {k : LoopPos → State} {f : Fault} :
    advanceLoop target k ≠ .fault f := by
  cases target <;> simp [advanceLoop]

@[simp] theorem advanceLoop_some (p : LoopPos) (k : LoopPos → State) : advanceLoop (some p) k = .next (k p) := rfl
@[simp] theorem advanceLoop_none (k : LoopPos → State) : advanceLoop none k = .refused .notEnabled := rfl

theorem State.seqAt_iff {s : State} {p : SvcPos} : s.seqAt p = true ↔ s.started = true ∧ s.svc = p := by
  simp [State.seqAt]

theorem State.loopFree_iff {s : State} : s.loopFree = true ↔ s.started = true ∧ s.svc = .idle := by
  simp [State.loopFree]

theorem State.loopAt_iff {s : State} {p : LoopPos} :
    s.loopAt p = true ↔ s.started = true ∧ s.svc = .idle ∧ s.lpc = p := by
  simp [State.loopAt, State.loopFree, and_assoc]

theorem State.req_iff {s : State} :
    s.req = true ↔ s.gie = true ∧ s.pend &&& s.ie ≠ 0b0000#4 ∧ s.svc = .idle := by
  simp [State.req, and_assoc]

/-- The edge latch touches `pend` alone (R101). -/
theorem State.edgeLatch_eq_setPend (s : State) (n : Pin) (old v : Bool) :
    ∃ p, s.edgeLatch n old v = s.setPend p := by
  unfold State.edgeLatch
  split
  · exact ⟨_, rfl⟩
  · exact ⟨s.pend, rfl⟩

/-- PIN_SET touches `lvl` and `pend` alone (R63). -/
theorem State.drivePin_eq_set (s : State) (n : Pin) (v : Bool) :
    ∃ l p, s.drivePin n v = (s.setLvl l).setPend p := by
  unfold State.drivePin
  dsimp only
  split
  · obtain ⟨p, hp⟩ := State.edgeLatch_eq_setPend (s.setLvl (setPinBit s.lvl n v)) n (pinBit s.lvl n) v
    exact ⟨_, p, hp⟩
  · exact ⟨setPinBit s.lvl n v, s.pend, rfl⟩

/-- Reading one bit after one bit was written. -/
theorem pinBit_setPinBit (v : Pins) (n m : Pin) (b : Bool) :
    pinBit (setPinBit v n b) m = if m = n then b else pinBit v m := by
  revert v n m b
  decide

/-- The allowed pins of SVC_REARM, bit by bit as R124 writes them. -/
theorem pinBit_rearmAllowed_may (sense snap lvl : Pins) (n : Pin) :
    pinBit (rearmAllowed .may sense snap lvl) n
      = (pinBit sense n != pinBit snap n && pinBit lvl n != pinBit snap n) := by
  simp [pinBit, rearmAllowed, BitVec.getLsb]

theorem pinBit_rearmAllowed_any (sense snap lvl : Pins) (n : Pin) :
    pinBit (rearmAllowed .any sense snap lvl) n = (pinBit sense n != pinBit snap n) := by
  simp [pinBit, rearmAllowed, BitVec.getLsb]

/-- Button 4's effect in one line per value of `flash` (R128). -/
theorem State.toggleFlash_of_flash {s : State} (h : s.flash = true) :
    s.toggleFlash = s.invertFlash.ledClr 0b11#2 := by
  simp [State.toggleFlash, State.invertFlash, State.emitMode, State.emit, h]

theorem State.toggleFlash_of_not_flash {s : State} (h : s.flash = false) : s.toggleFlash = s.invertFlash := by
  simp [State.toggleFlash, State.invertFlash, State.emitMode, State.emit, h]

/-- A button step answers a next state exactly at its position with the snapshot taken (R125 to R128). -/
theorem buttonStep_next_iff {p after : SvcPos} {n : Pin} {effect : State → State} {s t : State} :
    buttonStep p n effect after s = .next t ↔
      s.started = true ∧ s.svc = p ∧
        ∃ v, s.snap = some v ∧ (if pinBit v n then s else effect s).setSvc after = t := by
  simp only [buttonStep, guarded_next_iff, State.seqAt_iff, readSet_next_iff, Host.Outcome.next.injEq, and_assoc]

theorem Result.andThen_next_iff {r : Result} {k : State → Result} {t : State} :
    Result.andThen r k = .next t ↔ ∃ u, r = .next u ∧ k u = .next t := by
  cases r <;> simp [Result.andThen]

@[simp] theorem execAll_nil (s : State) : execAll [] s = .next s := rfl

/-- A run of a first operation and more splits at the state between (R67). -/
theorem execAll_cons_next_iff {i : Instr} {is : List Instr} {s t : State} :
    execAll (i :: is) s = .next t ↔ ∃ u, exec i s = .next u ∧ execAll is u = .next t := by
  simp [execAll, Result.andThen_next_iff]

theorem execAll_append_next_iff {is js : List Instr} {s t : State} :
    execAll (is ++ js) s = .next t ↔ ∃ u, execAll is s = .next u ∧ execAll js u = .next t := by
  induction is generalizing s with
  | nil => simp
  | cons i is ih =>
    simp only [List.cons_append, execAll_cons_next_iff, ih]
    exact ⟨fun ⟨u, hu, v, hv, hw⟩ => ⟨v, ⟨u, hu, hv⟩, hw⟩, fun ⟨v, ⟨u, hu, hv⟩, hw⟩ => ⟨u, hu, v, hv, hw⟩⟩

/-- PIN_SET drives the level of its pin on `sw_in` (R53, R100). -/
@[simp] theorem inputsOf_pinSet_swIn (n : Pin) (v : Bool) (s : State) :
    (inputsOf (.pinSet n v) s).swIn = setPinBit s.lvl n v := rfl

/-- Every operation but PIN_SET leaves `sw_in` at the levels of the state (R53). -/
theorem inputsOf_swIn_of_not_pinSet {i : Instr} {s : State} (h : ∀ n v, i ≠ .pinSet n v) : (inputsOf i s).swIn = s.lvl := by
  cases i <;> first | rfl | exact absurd rfl (h _ _)

/-- A pseudo-operation answers a next state exactly when its condition holds, the operations are its lines, and they run
(R88). -/
theorem Pseudo.perform_next_iff {p : Pseudo} {ops : List Instr} {s t : State} :
    p.perform ops s = .next t ↔ p.condition s = true ∧ p.spelledBy ops = true ∧ execAll ops s = .next t := by
  simp [Pseudo.perform, guarded_next_iff, and_assoc]

/-- QUIET_ITER's condition (R88). -/
theorem Pseudo.condition_quietIter_iff {s : State} :
    Pseudo.quietIter.condition s = true ↔ s.play = false ∧ s.flash = false := by
  simp [Pseudo.condition]

/-- What a step that answers a next state has done: it took the next word and ran the operation the word spells. -/
theorem step_next_iff {s t : State} :
    step s = .next t ↔
      ∃ w rest i, s.trace = w :: rest ∧ decode w = .op i ∧ exec i (s.setTrace rest) = .next t := by
  cases h : s.trace with
  | nil => simp [step, fetch, h]
  | cons w rest => cases hd : decode w <;> simp [step, fetch, h, hd]

/-- A step faults only where its operation does (R207). -/
theorem step_fault_iff {s : State} {f : Fault} :
    step s = .fault f ↔
      ∃ w rest i, s.trace = w :: rest ∧ decode w = .op i ∧ exec i (s.setTrace rest) = .fault f := by
  cases h : s.trace with
  | nil => simp [step, fetch, h]
  | cons w rest => cases hd : decode w <;> simp [step, fetch, h, hd]

end Sys2Proof.Machine
end

