-- ==== Sys2Proof/Laws/Exec.lean ====
section
/-!
SUPPORT. What each operation has done when `exec` answers a next state: one inversion lemma per constructor of `Instr`, over
the single-field updates, the positions the loop's operands lead to, and a run's LED writes. Later proofs split on the operation and cite these.
-/

namespace Sys2Proof.Machine

variable {s t : State}

/-- Where LOOP_SET_PERIOD's guard holds, and where it leads (R173). -/
theorem setPeriodNext_eq_some_iff {p q : LoopPos} {t : Period} :
    setPeriodNext p t = some q ↔
      (∃ k, p = .swpSet k ∧ t = per k ∧ q = .swpDly k) ∨ (p = .sil ∧ t = Config.silence ∧ q = .fchk) := by
  cases p with
  | swpSet k => simp only [setPeriodNext]; split <;> simp_all [eq_comm]
  | sil => simp only [setPeriodNext]; split <;> simp_all [eq_comm]
  | _ => simp [setPeriodNext]

/-- Where LOOP_DELAY's guard holds, and where it leads (R174). -/
theorem delayNext_eq_some_iff {p q : LoopPos} :
    delayNext p = some q ↔
      (∃ k, p = .swpDly k ∧ q = if h : k.val < 31 then .swpSet ⟨k.val + 1, by omega⟩ else .fchk) ∨
        (p = .fdly ∧ q = .top) := by
  cases p <;> simp [delayNext, eq_comm]

/-- A mask selects one LED exactly when it is that LED's mask. -/
theorem halfMask_eq_some_iff {m : Leds} {a : Led} : halfMask m = some a ↔ m = a.mask := by
  cases a <;> revert m <;> decide

/-- Where LOOP_FLASH_TGL's guard holds, and where it leads (R178). -/
theorem flashTglNext_eq_some_iff {p q : LoopPos} {m : Leds} :
    flashTglNext p m = some q ↔
      (∃ fm : Led, p = .ftglA ∧ m = fm.mask ∧ q = .ftglB fm) ∨
        (∃ fm : Led, p = .ftglB fm ∧ m = 0b11#2 ^^^ fm.mask ∧ q = .fdly) ∨
        (p = .ftgl ∧ m = 0b11#2 ∧ q = .fdly) := by
  cases p with
  | ftglA => simp only [flashTglNext, Option.map_eq_some_iff, halfMask_eq_some_iff]; simp [eq_comm]
  | ftglB fm => simp only [flashTglNext]; split <;> simp_all [eq_comm]
  | ftgl => simp only [flashTglNext]; split <;> simp_all [eq_comm]
  | _ => simp [flashTglNext]

theorem exec_reset_next_iff {r : Pins} {l : Leds} :
    exec (.reset r l) s = .next t ↔
      s.started = false ∧ t =
        { cfg := s.cfg, started := true, trace := s.trace, lvl := s.cfg.level0, swcfg := false, sense := 0b1111#4,
          pend := r, ie := 0b0000#4, gie := false, play := false, flash := false, led := l, ledOe := false,
          svc := .idle, seen := none, snap := none, lpc := .bootClk, tone := none, events := [] } := by
  simp [exec, execReset, guarded_next_iff, eq_comm (a := t)]

theorem exec_bootClk_next_iff :
    exec .bootClk s = .next t ↔ s.started = true ∧ s.svc = .idle ∧ s.lpc = .bootClk ∧ t = s.setLpc .bootSw := by
  simp [exec, execBootClk, guarded_next_iff, State.loopAt_iff, and_assoc, eq_comm (a := t)]

theorem exec_bootSwCfg_next_iff :
    exec .bootSwCfg s = .next t ↔
      s.started = true ∧ s.svc = .idle ∧ s.lpc = .bootSw ∧
        t = (((s.setIe 0b1111#4).setSense 0b1111#4).setSwcfg true).setLpc .bootLed := by
  simp [exec, execBootSwCfg, guarded_next_iff, State.loopAt_iff, and_assoc, eq_comm (a := t)]

theorem exec_bootLedCfg_next_iff :
    exec .bootLedCfg s = .next t ↔
      s.started = true ∧ s.svc = .idle ∧ s.lpc = .bootLed ∧ t = (s.setLedOe true).setLpc .bootBuz := by
  simp [exec, execBootLedCfg, guarded_next_iff, State.loopAt_iff, and_assoc, eq_comm (a := t)]

theorem exec_bootBuz_next_iff :
    exec .bootBuz s = .next t ↔ s.started = true ∧ s.svc = .idle ∧ s.lpc = .bootBuz ∧ t = s.setLpc .bootGie := by
  simp [exec, execBootBuz, guarded_next_iff, State.loopAt_iff, and_assoc, eq_comm (a := t)]

theorem exec_bootGie_next_iff :
    exec .bootGie s = .next t ↔
      s.started = true ∧ s.svc = .idle ∧ s.lpc = .bootGie ∧ t = (s.setGie true).setLpc .top := by
  simp [exec, execBootGie, guarded_next_iff, State.loopAt_iff, and_assoc, eq_comm (a := t)]

theorem exec_pinSet_next_iff {n : Pin} {v : Bool} :
    exec (.pinSet n v) s = .next t ↔ s.started = true ∧ t = s.drivePin n v := by
  simp [exec, execPinSet, guarded_next_iff, eq_comm (a := t)]

theorem exec_svcEnter_next_iff :
    exec .svcEnter s = .next t ↔ s.started = true ∧ s.req = true ∧ t = s.enterService := by
  simp [exec, execSvcEnter, guarded_next_iff, and_assoc, eq_comm (a := t)]

theorem exec_svcClear_next_iff {m : Pins} :
    exec (.svcClear m) s = .next t ↔
      s.started = true ∧ s.svc = .clr ∧
        ∃ v, s.seen = some v ∧ clearOk s.cfg.clearScope m v = true ∧ t = (s.clearPend m).setSvc .snap := by
  simp [exec, execSvcClear, guarded_next_iff, readSet_next_iff, State.seqAt_iff, and_assoc, eq_comm (a := t)]

theorem exec_svcSnap_next_iff :
    exec .svcSnap s = .next t ↔
      s.started = true ∧ s.svc = .snap ∧ t = (s.setSnap (some s.lvl)).setSvc .rearm := by
  simp [exec, execSvcSnap, guarded_next_iff, State.seqAt_iff, and_assoc, eq_comm (a := t)]

theorem exec_svcRearm_next_iff {q : Pins} :
    exec (.svcRearm q) s = .next t ↔
      s.started = true ∧ s.svc = .rearm ∧
        ∃ v, s.snap = some v ∧ rearmOk s.cfg.senseWritePending q s.sense v s.lvl = true ∧
          t = ((s.setSense v).raisePend q).setSvc .b1 := by
  simp [exec, execSvcRearm, guarded_next_iff, readSet_next_iff, State.seqAt_iff, and_assoc, eq_comm (a := t)]

theorem exec_svcBtn1_next_iff :
    exec .svcBtn1 s = .next t ↔
      s.started = true ∧ s.svc = .b1 ∧
        ∃ v, s.snap = some v ∧ t = (if pinBit v 0 then s else s.invertPlay).setSvc .b2 := by
  simp only [exec, execSvcBtn1, buttonStep_next_iff, eq_comm (a := t)]

theorem exec_svcBtn2_next_iff :
    exec .svcBtn2 s = .next t ↔
      s.started = true ∧ s.svc = .b2 ∧
        ∃ v, s.snap = some v ∧ t = (if pinBit v 1 then s else s.ledXor 0b10#2).setSvc .b3 := by
  simp only [exec, execSvcBtn2, buttonStep_next_iff, eq_comm (a := t)]

theorem exec_svcBtn3_next_iff :
    exec .svcBtn3 s = .next t ↔
      s.started = true ∧ s.svc = .b3 ∧
        ∃ v, s.snap = some v ∧ t = (if pinBit v 2 then s else s.ledXor 0b01#2).setSvc .b4 := by
  simp only [exec, execSvcBtn3, buttonStep_next_iff, eq_comm (a := t)]

theorem exec_svcBtn4_next_iff :
    exec .svcBtn4 s = .next t ↔
      s.started = true ∧ s.svc = .b4 ∧
        ∃ v, s.snap = some v ∧ t = (if pinBit v 3 then s else s.toggleFlash).setSvc .exit := by
  simp only [exec, execSvcBtn4, buttonStep_next_iff, eq_comm (a := t)]

theorem exec_svcExit_next_iff :
    exec .svcExit s = .next t ↔ s.started = true ∧ s.svc = .exit ∧ t = s.setSvc .idle := by
  simp [exec, execSvcExit, guarded_next_iff, State.seqAt_iff, State.leaveService, and_assoc, eq_comm (a := t)]

theorem exec_loopSetPeriod_next_iff {p : Period} :
    exec (.loopSetPeriod p) s = .next t ↔
      s.started = true ∧ s.svc = .idle ∧
        ∃ q, setPeriodNext s.lpc p = some q ∧ t = ((s.setTone (some p)).emit (.tone p)).setLpc q := by
  simp [exec, execLoopSetPeriod, guarded_next_iff, advanceLoop_next_iff, State.loopFree_iff, and_assoc]

theorem exec_loopReadPlay_next_iff :
    exec .loopReadPlay s = .next t ↔
      s.started = true ∧ s.svc = .idle ∧ s.lpc = .top ∧
        t = (s.emit (.readPlay s.play)).setLpc (readPlayNext s.play) := by
  simp [exec, execLoopReadPlay, guarded_next_iff, State.loopAt_iff, and_assoc, eq_comm (a := t)]

theorem exec_loopReadFlash_next_iff :
    exec .loopReadFlash s = .next t ↔
      s.started = true ∧ s.svc = .idle ∧ s.lpc = .fchk ∧
        t = (s.emit (.readFlash s.flash)).setLpc (readFlashNext s.cfg.flashToggleForm s.flash) := by
  simp [exec, execLoopReadFlash, guarded_next_iff, State.loopAt_iff, and_assoc, eq_comm (a := t)]

theorem exec_loopFlashTgl_next_iff {m : Leds} :
    exec (.loopFlashTgl m) s = .next t ↔
      s.started = true ∧ s.svc = .idle ∧ ∃ q, flashTglNext s.lpc m = some q ∧ t = (s.ledXor m).setLpc q := by
  simp [exec, execLoopFlashTgl, guarded_next_iff, advanceLoop_next_iff, State.loopFree_iff, and_assoc]

theorem exec_loopDelay_next_iff :
    exec .loopDelay s = .next t ↔
      s.started = true ∧ s.svc = .idle ∧ ∃ q, delayNext s.lpc = some q ∧ t = s.setLpc q := by
  simp [exec, execLoopDelay, guarded_next_iff, advanceLoop_next_iff, State.loopFree_iff, and_assoc]

@[simp] theorem ledWrites_nil (s : State) : ledWrites [] s = [] := rfl

/-- The writes of a run are its first operation's and then those of the rest (R155). -/
theorem ledWrites_cons {i : Instr} {is : List Instr} (h : exec i s = .next t) :
    ledWrites (i :: is) s = (ledWriteOf i s).toList ++ ledWrites is t := by
  simp [ledWrites, h]

end Sys2Proof.Machine
end

