-- ==== Sys2Proof/Laws/FairRun.lean ====
section
/-!
SUPPORT. A concrete weakly fair infinite run from every state a service can be finished from: a scheduler that lets the
sequencer step whenever it can and the loop otherwise. It shows that R210's fair runs exist, so that statements over them
are not empty.
-/

namespace Sys2Proof.Machine

/-- The fields a service reads are set where it reads them, in a run whose first word is past. -/
structure CanGoOn (s : State) : Prop where
  started : s.started = true
  seen_set : s.svc = .clr → s.seen.isSome = true
  snap_set : 3 ≤ s.svc.code.toNat → s.snap.isSome = true

/-- A clear mask that every `CLEAR_SCOPE` admits (R122). -/
def admittedMask (s : State) : Pins :=
  match s.cfg.clearScope with
  | .group => 0b1111#4
  | .observed => s.seen.getD 0
  | .either => s.seen.getD 0

/-- The loop's next operation (R45). -/
def loopOp (p : LoopPos) : Instr :=
  match p with
  | .bootClk => .bootClk
  | .bootSw => .bootSwCfg
  | .bootLed => .bootLedCfg
  | .bootBuz => .bootBuz
  | .bootGie => .bootGie
  | .top => .loopReadPlay
  | .swpSet k => .loopSetPeriod (per k)
  | .swpDly _ => .loopDelay
  | .sil => .loopSetPeriod Config.silence
  | .fchk => .loopReadFlash
  | .ftglA => .loopFlashTgl 0b01#2
  | .ftglB fm => .loopFlashTgl (0b11#2 ^^^ fm.mask)
  | .ftgl => .loopFlashTgl 0b11#2
  | .fdly => .loopDelay

/-- The scheduler: the sequencer's next operation where it has one, and the loop's next one where it has not. -/
def scheduled (s : State) : Instr :=
  match s.svc with
  | .idle => if s.req then .svcEnter else loopOp s.lpc
  | .clr => .svcClear (admittedMask s)
  | .snap => .svcSnap
  | .rearm => .svcRearm 0b0000#4
  | .b1 => .svcBtn1
  | .b2 => .svcBtn2
  | .b3 => .svcBtn3
  | .b4 => .svcBtn4
  | .exit => .svcExit

/-- The state the scheduled operation leads to. -/
def scheduledNext (s : State) : State :=
  match exec (scheduled s) s with
  | .next t => t
  | .fault _ => s
  | .refused _ => s

/-- The states of the scheduler's run. -/
def scheduledRun (s : State) : Nat → State
  | 0 => s
  | n + 1 => scheduledNext (scheduledRun s n)

variable {s : State}

theorem loopOp_agent (p : LoopPos) : (loopOp p).agent = .loop := by cases p <;> rfl

/-- With the sequencer idle the loop's next operation completes, and it moves neither the sequencer nor its fields. -/
theorem exec_loopOp (h : s.started = true) (hi : s.svc = .idle) :
    ∃ t, exec (loopOp s.lpc) s = .next t ∧ t.started = true ∧ t.svc = .idle := by
  cases hp : s.lpc with
  | bootClk => exact ⟨_, exec_bootClk_next_iff.mpr ⟨h, hi, hp, rfl⟩, h, hi⟩
  | bootSw => exact ⟨_, exec_bootSwCfg_next_iff.mpr ⟨h, hi, hp, rfl⟩, h, hi⟩
  | bootLed => exact ⟨_, exec_bootLedCfg_next_iff.mpr ⟨h, hi, hp, rfl⟩, h, hi⟩
  | bootBuz => exact ⟨_, exec_bootBuz_next_iff.mpr ⟨h, hi, hp, rfl⟩, h, hi⟩
  | bootGie => exact ⟨_, exec_bootGie_next_iff.mpr ⟨h, hi, hp, rfl⟩, h, hi⟩
  | top => exact ⟨_, exec_loopReadPlay_next_iff.mpr ⟨h, hi, hp, rfl⟩, h, hi⟩
  | fchk => exact ⟨_, exec_loopReadFlash_next_iff.mpr ⟨h, hi, hp, rfl⟩, h, hi⟩
  | swpSet k =>
    exact ⟨_, exec_loopSetPeriod_next_iff.mpr
      ⟨h, hi, _, setPeriodNext_eq_some_iff.mpr (.inl ⟨k, hp, rfl, rfl⟩), rfl⟩, h, hi⟩
  | sil =>
    exact ⟨_, exec_loopSetPeriod_next_iff.mpr
      ⟨h, hi, _, setPeriodNext_eq_some_iff.mpr (.inr ⟨hp, rfl, rfl⟩), rfl⟩, h, hi⟩
  | swpDly k =>
    exact ⟨_, exec_loopDelay_next_iff.mpr ⟨h, hi, _, delayNext_eq_some_iff.mpr (.inl ⟨k, hp, rfl⟩), rfl⟩, h, hi⟩
  | fdly => exact ⟨_, exec_loopDelay_next_iff.mpr ⟨h, hi, _, delayNext_eq_some_iff.mpr (.inr ⟨hp, rfl⟩), rfl⟩, h, hi⟩
  | ftglA =>
    exact ⟨_, exec_loopFlashTgl_next_iff.mpr
      ⟨h, hi, _, flashTglNext_eq_some_iff.mpr (.inl ⟨.red, hp, rfl, rfl⟩), rfl⟩, h, hi⟩
  | ftglB fm =>
    exact ⟨_, exec_loopFlashTgl_next_iff.mpr
      ⟨h, hi, _, flashTglNext_eq_some_iff.mpr (.inr (.inl ⟨fm, hp, rfl, rfl⟩)), rfl⟩, h, hi⟩
  | ftgl =>
    exact ⟨_, exec_loopFlashTgl_next_iff.mpr
      ⟨h, hi, _, flashTglNext_eq_some_iff.mpr (.inr (.inr ⟨hp, rfl, rfl⟩)), rfl⟩, h, hi⟩

theorem clearOk_admittedMask {v : Pins} (h : s.seen = some v) :
    clearOk s.cfg.clearScope (admittedMask s) v = true := by
  cases hc : s.cfg.clearScope <;> simp [clearOk, admittedMask, hc, h]

theorem rearmOk_zero (p : SenseWritePending) (sense snap lvl : Pins) : rearmOk p 0b0000#4 sense snap lvl = true := by
  simp [rearmOk]

/-- A button step's next state keeps what the scheduler needs. -/
theorem canGoOn_setSvc {t : State} {p : SvcPos} (hs : t.started = true) (hn : t.snap.isSome = true) (hp : p ≠ .clr) :
    CanGoOn (t.setSvc p) :=
  ⟨hs, fun h => absurd h hp, fun _ => hn⟩

/-- The scheduled operation completes, and the next one can go on. -/
theorem exec_scheduled (h : CanGoOn s) : ∃ t, exec (scheduled s) s = .next t ∧ CanGoOn t := by
  cases hp : s.svc with
  | idle =>
    cases hr : s.req with
    | true =>
      simp only [scheduled, hp, hr, if_true]
      exact ⟨_, exec_svcEnter_next_iff.mpr ⟨h.started, hr, rfl⟩, h.started, fun _ => rfl,
        fun hc => absurd hc (by simp [State.enterService, SvcPos.code])⟩
    | false =>
      obtain ⟨t, ht, hs, hi⟩ := exec_loopOp h.started hp
      simp only [scheduled, hp, hr]
      exact ⟨t, by simpa using ht, hs, fun hc => by simp [hi] at hc, fun hc => by simp [hi, SvcPos.code] at hc⟩
  | clr =>
    obtain ⟨v, hv⟩ := Option.isSome_iff_exists.mp (h.seen_set hp)
    simp only [scheduled, hp]
    exact ⟨_, exec_svcClear_next_iff.mpr ⟨h.started, hp, v, hv, clearOk_admittedMask hv, rfl⟩, h.started,
      fun hc => absurd hc (by simp), fun hc => absurd hc (by simp [SvcPos.code])⟩
  | snap =>
    simp only [scheduled, hp]
    exact ⟨_, exec_svcSnap_next_iff.mpr ⟨h.started, hp, rfl⟩, h.started, fun hc => absurd hc (by simp), fun _ => rfl⟩
  | exit =>
    simp only [scheduled, hp]
    exact ⟨_, exec_svcExit_next_iff.mpr ⟨h.started, hp, rfl⟩, h.started, fun hc => absurd hc (by simp),
      fun hc => absurd hc (by simp [SvcPos.code])⟩
  | rearm =>
    have hn := h.snap_set (by simp [hp, SvcPos.code])
    obtain ⟨v, hv⟩ := Option.isSome_iff_exists.mp hn
    simp only [scheduled, hp]
    exact ⟨_, exec_svcRearm_next_iff.mpr ⟨h.started, hp, v, hv, rearmOk_zero _ _ _ _, rfl⟩,
      canGoOn_setSvc h.started hn (by decide)⟩
  | b1 =>
    have hn := h.snap_set (by simp [hp, SvcPos.code])
    obtain ⟨v, hv⟩ := Option.isSome_iff_exists.mp hn
    simp only [scheduled, hp]
    refine ⟨_, exec_svcBtn1_next_iff.mpr ⟨h.started, hp, v, hv, rfl⟩, ?_⟩
    split <;> exact canGoOn_setSvc h.started hn (by decide)
  | b2 =>
    have hn := h.snap_set (by simp [hp, SvcPos.code])
    obtain ⟨v, hv⟩ := Option.isSome_iff_exists.mp hn
    simp only [scheduled, hp]
    refine ⟨_, exec_svcBtn2_next_iff.mpr ⟨h.started, hp, v, hv, rfl⟩, ?_⟩
    split <;> exact canGoOn_setSvc h.started hn (by decide)
  | b3 =>
    have hn := h.snap_set (by simp [hp, SvcPos.code])
    obtain ⟨v, hv⟩ := Option.isSome_iff_exists.mp hn
    simp only [scheduled, hp]
    refine ⟨_, exec_svcBtn3_next_iff.mpr ⟨h.started, hp, v, hv, rfl⟩, ?_⟩
    split <;> exact canGoOn_setSvc h.started hn (by decide)
  | b4 =>
    have hn := h.snap_set (by simp [hp, SvcPos.code])
    obtain ⟨v, hv⟩ := Option.isSome_iff_exists.mp hn
    simp only [scheduled, hp]
    refine ⟨_, exec_svcBtn4_next_iff.mpr ⟨h.started, hp, v, hv, rfl⟩, ?_⟩
    split
    · exact canGoOn_setSvc h.started hn (by decide)
    · refine canGoOn_setSvc ?_ ?_ (by decide) <;> cases hf : s.flash <;>
        simp [State.toggleFlash, State.invertFlash, State.emitMode, State.emit, State.ledClr, hf, h.started, hn]

theorem canGoOn_scheduledRun (h : CanGoOn s) (n : Nat) : CanGoOn (scheduledRun s n) := by
  induction n with
  | zero => exact h
  | succ n ih =>
    obtain ⟨t, ht, hc⟩ := exec_scheduled ih
    simpa [scheduledRun, scheduledNext, ht] using hc

/-- Where the sequencer has a step the scheduler takes it. -/
theorem scheduled_agent_of_seq_enabled (h : agentEnabled .seq s) : (scheduled s).agent = .seq := by
  cases hp : s.svc with
  | idle =>
    cases hr : s.req with
    | true => simp [scheduled, hp, hr, Instr.agent]
    | false =>
      obtain ⟨i, ha, t, ht⟩ := h
      exfalso
      cases i <;> simp only [Instr.agent, reduceCtorEq] at ha
      case svcEnter => simp [exec_svcEnter_next_iff, hr] at ht
      case svcClear => simp [exec_svcClear_next_iff, hp] at ht
      case svcSnap => simp [exec_svcSnap_next_iff, hp] at ht
      case svcRearm => simp [exec_svcRearm_next_iff, hp] at ht
      case svcBtn1 => simp [exec_svcBtn1_next_iff, hp] at ht
      case svcBtn2 => simp [exec_svcBtn2_next_iff, hp] at ht
      case svcBtn3 => simp [exec_svcBtn3_next_iff, hp] at ht
      case svcBtn4 => simp [exec_svcBtn4_next_iff, hp] at ht
      case svcExit => simp [exec_svcExit_next_iff, hp] at ht
  | _ => simp [scheduled, hp, Instr.agent]

/-- The loop has a step only while the sequencer is idle (R203). -/
theorem svc_idle_of_loop_enabled (h : agentEnabled .loop s) : s.svc = .idle := by
  obtain ⟨i, ha, t, ht⟩ := h
  cases i <;> simp only [Instr.agent, reduceCtorEq] at ha
  case bootClk => exact (exec_bootClk_next_iff.mp ht).2.1
  case bootSwCfg => exact (exec_bootSwCfg_next_iff.mp ht).2.1
  case bootLedCfg => exact (exec_bootLedCfg_next_iff.mp ht).2.1
  case bootBuz => exact (exec_bootBuz_next_iff.mp ht).2.1
  case bootGie => exact (exec_bootGie_next_iff.mp ht).2.1
  case loopSetPeriod => exact (exec_loopSetPeriod_next_iff.mp ht).2.1
  case loopReadPlay => exact (exec_loopReadPlay_next_iff.mp ht).2.1
  case loopReadFlash => exact (exec_loopReadFlash_next_iff.mp ht).2.1
  case loopFlashTgl => exact (exec_loopFlashTgl_next_iff.mp ht).2.1
  case loopDelay => exact (exec_loopDelay_next_iff.mp ht).2.1

/-- The scheduler's run is infinite and weakly fair (R210, R211). -/
theorem scheduledRun_fair (h : CanGoOn s) :
    IsFairRun (scheduledRun s) fun n => scheduled (scheduledRun s n) := by
  refine ⟨fun n => ?_, fun n hn k => ?_, fun n hn k => ?_⟩
  · obtain ⟨t, ht, _⟩ := exec_scheduled (canGoOn_scheduledRun h n)
    simp [scheduledRun, scheduledNext, ht]
  · exact ⟨max n k, le_max_right n k, scheduled_agent_of_seq_enabled (hn _ (le_max_left n k))⟩
  · refine ⟨max n k, le_max_right n k, ?_⟩
    have hp := svc_idle_of_loop_enabled (hn _ (le_max_left n k))
    cases hr : (scheduledRun s (max n k)).req with
    | false => simpa [scheduled, hp, hr] using loopOp_agent _
    | true =>
      have hs : scheduled (scheduledRun s (max n k)) = .svcEnter := by simp [scheduled, hp, hr]
      have he := exec_svcEnter_next_iff.mpr ⟨(canGoOn_scheduledRun h (max n k)).started, hr, rfl⟩
      have hq := svc_idle_of_loop_enabled (hn (max n k + 1) (le_trans (le_max_left n k) (Nat.le_succ _)))
      simp [scheduledRun, scheduledNext, hs, he, State.enterService] at hq

end Sys2Proof.Machine
end

