-- ==== Sys2Proof/Laws/PerInstr.lean ====
section
/-!
SUPPORT. Per-instruction law `RowMatch`: the encoded word of an operation is selected by the table row of its mnemonic, and that
row builds the operation back from the word. With the rows' disjointness it leads to the decoder's round trip.
-/

namespace Sys2Proof.Laws.RowMatch

/-- Some row of the table carries `i`'s mnemonic, selects `i`'s word, and reads `i`'s operands back from it (R84, R86). -/
def Statement (i : Instr) : Prop :=
  ∃ r ∈ opcodeRows, r.mnemonic = mnemonicOf i ∧ r.selects (encode i) = true ∧ r.build (encode i) = i

/-- The fixed bits of a tone word (R81, format T). -/
theorem tone_word_masked (t : Period) : (0b0011#4 ++ t) &&& 0xF000#16 = 0x3000#16 := by
  apply BitVec.eq_of_getLsbD_eq
  intro i hi
  rw [BitVec.getLsbD_and, BitVec.getLsbD_append]
  obtain h | h := Nat.lt_or_ge i 12
  · simp only [h, if_true]
    interval_cases i <;> simp
  · simp only [Nat.not_lt.mpr h, if_false]
    interval_cases i <;> rfl

/-- The period field of a tone word (R81, format T). -/
theorem tone_word_field (t : Period) : (0b0011#4 ++ t : Word).extractLsb' 0 12 = t := by
  apply BitVec.eq_of_getLsbD_eq
  intro i hi
  rw [BitVec.getLsbD_extractLsb', BitVec.getLsbD_append]
  simp [hi]

theorem reset (r : Pins) (l : Leds) : Statement (.reset r l) :=
  ⟨⟨"RESET", 0x0000, 0xFFC0, fun w => .reset (w.extractLsb' 0 4) (w.extractLsb' 4 2)⟩, by simp [opcodeRows, bootRows, envRows, seqRows, loopRows], by revert r l; decide⟩

theorem bootClk : Statement .bootClk :=
  ⟨⟨"BOOT_CLK", 0x0100, 0xFFFF, fun _ => .bootClk⟩, by simp [opcodeRows, bootRows, envRows, seqRows, loopRows], by decide⟩

theorem bootSwCfg : Statement .bootSwCfg :=
  ⟨⟨"BOOT_SW_CFG", 0x0200, 0xFFFF, fun _ => .bootSwCfg⟩, by simp [opcodeRows, bootRows, envRows, seqRows, loopRows], by decide⟩

theorem bootLedCfg : Statement .bootLedCfg :=
  ⟨⟨"BOOT_LED_CFG", 0x0300, 0xFFFF, fun _ => .bootLedCfg⟩, by simp [opcodeRows, bootRows, envRows, seqRows, loopRows], by decide⟩

theorem bootBuz : Statement .bootBuz :=
  ⟨⟨"BOOT_BUZ", 0x0400, 0xFFFF, fun _ => .bootBuz⟩, by simp [opcodeRows, bootRows, envRows, seqRows, loopRows], by decide⟩

theorem bootGie : Statement .bootGie :=
  ⟨⟨"BOOT_GIE", 0x0500, 0xFFFF, fun _ => .bootGie⟩, by simp [opcodeRows, bootRows, envRows, seqRows, loopRows], by decide⟩

theorem pinSet (n : Pin) (v : Bool) : Statement (.pinSet n v) :=
  ⟨⟨"PIN_SET", 0x1000, 0xFFEC, fun w => .pinSet (w.extractLsb' 0 2).toFin (w.getLsbD 4)⟩, by simp [opcodeRows, bootRows, envRows, seqRows, loopRows], by revert n v; decide⟩

theorem svcEnter : Statement .svcEnter :=
  ⟨⟨"SVC_ENTER", 0x2000, 0xFFFF, fun _ => .svcEnter⟩, by simp [opcodeRows, bootRows, envRows, seqRows, loopRows], by decide⟩

theorem svcClear (m : Pins) : Statement (.svcClear m) :=
  ⟨⟨"SVC_CLEAR", 0x2100, 0xFFF0, fun w => .svcClear (w.extractLsb' 0 4)⟩, by simp [opcodeRows, bootRows, envRows, seqRows, loopRows], by revert m; decide⟩

theorem svcSnap : Statement .svcSnap :=
  ⟨⟨"SVC_SNAP", 0x2200, 0xFFFF, fun _ => .svcSnap⟩, by simp [opcodeRows, bootRows, envRows, seqRows, loopRows], by decide⟩

theorem svcRearm (q : Pins) : Statement (.svcRearm q) :=
  ⟨⟨"SVC_REARM", 0x2300, 0xFFF0, fun w => .svcRearm (w.extractLsb' 0 4)⟩, by simp [opcodeRows, bootRows, envRows, seqRows, loopRows], by revert q; decide⟩

theorem svcBtn1 : Statement .svcBtn1 :=
  ⟨⟨"SVC_BTN1", 0x2400, 0xFFFF, fun _ => .svcBtn1⟩, by simp [opcodeRows, bootRows, envRows, seqRows, loopRows], by decide⟩

theorem svcBtn2 : Statement .svcBtn2 :=
  ⟨⟨"SVC_BTN2", 0x2500, 0xFFFF, fun _ => .svcBtn2⟩, by simp [opcodeRows, bootRows, envRows, seqRows, loopRows], by decide⟩

theorem svcBtn3 : Statement .svcBtn3 :=
  ⟨⟨"SVC_BTN3", 0x2600, 0xFFFF, fun _ => .svcBtn3⟩, by simp [opcodeRows, bootRows, envRows, seqRows, loopRows], by decide⟩

theorem svcBtn4 : Statement .svcBtn4 :=
  ⟨⟨"SVC_BTN4", 0x2700, 0xFFFF, fun _ => .svcBtn4⟩, by simp [opcodeRows, bootRows, envRows, seqRows, loopRows], by decide⟩

theorem svcExit : Statement .svcExit :=
  ⟨⟨"SVC_EXIT", 0x2800, 0xFFFF, fun _ => .svcExit⟩, by simp [opcodeRows, bootRows, envRows, seqRows, loopRows], by decide⟩

theorem loopSetPeriod (t : Period) : Statement (.loopSetPeriod t) :=
  ⟨⟨"LOOP_SET_PERIOD", 0x3000, 0xF000, fun w => .loopSetPeriod (w.extractLsb' 0 12)⟩, by simp [opcodeRows, bootRows, envRows, seqRows, loopRows], rfl,
    beq_iff_eq.mpr (tone_word_masked t), congrArg Instr.loopSetPeriod (tone_word_field t)⟩

theorem loopReadPlay : Statement .loopReadPlay :=
  ⟨⟨"LOOP_READ_PLAY", 0x4000, 0xFFFF, fun _ => .loopReadPlay⟩, by simp [opcodeRows, bootRows, envRows, seqRows, loopRows], by decide⟩

theorem loopReadFlash : Statement .loopReadFlash :=
  ⟨⟨"LOOP_READ_FLASH", 0x4100, 0xFFFF, fun _ => .loopReadFlash⟩, by simp [opcodeRows, bootRows, envRows, seqRows, loopRows], by decide⟩

theorem loopFlashTgl (m : Leds) : Statement (.loopFlashTgl m) :=
  ⟨⟨"LOOP_FLASH_TGL", 0x4200, 0xFFFC, fun w => .loopFlashTgl (w.extractLsb' 0 2)⟩, by simp [opcodeRows, bootRows, envRows, seqRows, loopRows], by revert m; decide⟩

theorem loopDelay : Statement .loopDelay :=
  ⟨⟨"LOOP_DELAY", 0x4300, 0xFFFF, fun _ => .loopDelay⟩, by simp [opcodeRows, bootRows, envRows, seqRows, loopRows], by decide⟩

end Sys2Proof.Laws.RowMatch
end

