-- ==== Sys2Proof/Tests/Slice0.lean ====
section
/-!
SUPPORT. The model's own tests. Expected results come from spec/95_test_vectors.md (V1 to V6, S1 to S5) and from the encodings
of R84 written out bit by bit, never from the model. The theorems named `witness_…` show, for each obligation with hypotheses,
concrete states and operands that meet them.
-/

namespace Sys2Proof.Tests

open Sys2Proof.Machine

/-- S_boot of 95_test_vectors.md section 0, written from its own list of values. -/
def sBoot : State :=
  { State.reset with swcfg := true, ie := 0b1111#4, gie := true, ledOe := true, lpc := .top }

/-- S_boot with the loop at a position. -/
def atLoop (p : LoopPos) : State := { sBoot with lpc := p }

/-- S_boot in a service at a position, with the pending flag of pin 1 observed and a snapshot taken. -/
def atSvc (p : SvcPos) (snap : Pins) : State := { sBoot with svc := p, seen := some 0b0010#4, snap := some snap }

/-- S_boot with other parameters. -/
def withParams (c : ClearScope) (w : SenseWritePending) (f : FlashToggleForm) (s : State) : State :=
  { s with cfg := { clearScope := c, senseWritePending := w, flashToggleForm := f, level0 := 0b1111#4 } }

/-- S_boot with pin n pressed and latched. -/
def pressed (n : Pin) : State :=
  { sBoot with lvl := setPinBit 0b1111#4 n false, pend := setPinBit 0b0000#4 n true }

/-- The result is a next state with the property. -/
def after (r : Result) (p : State → Bool) : Bool :=
  match r with
  | .next t => p t
  | .fault _ => false
  | .refused _ => false

/-- The result is `NotEnabled`. -/
def denied (r : Result) : Bool :=
  match r with
  | .next _ => false
  | .fault _ => false
  | .refused q => q == .notEnabled

/-- The state a list of operations leads to, or where it started if it is no run. -/
def endOf (ops : List Instr) (s : State) : State :=
  match execAll ops s with
  | .next t => t
  | .fault _ => s
  | .refused _ => s

/-! ## Syntax and words -/

/-- The one check of WellFormed refuses the reserved mask (R82, R85). -/
theorem test_wellFormed_refuses_reserved_mask : (Instr.loopFlashTgl 0b00#2).wellFormed = false := by decide

theorem test_wellFormed_accepts_both_leds : (Instr.loopFlashTgl 0b11#2).wellFormed = true := by decide

/-! Each row's word written out bit by bit from the pattern R84 prints, with every operand letter at a value of its own. -/

theorem test_decode_reset : decode 0b0000000000011010#16 = .op (.reset 0b1010#4 0b01#2) := by decide
theorem test_decode_bootClk : decode 0b0000000100000000#16 = .op .bootClk := by decide
theorem test_decode_bootSwCfg : decode 0b0000001000000000#16 = .op .bootSwCfg := by decide
theorem test_decode_bootLedCfg : decode 0b0000001100000000#16 = .op .bootLedCfg := by decide
theorem test_decode_bootBuz : decode 0b0000010000000000#16 = .op .bootBuz := by decide
theorem test_decode_bootGie : decode 0b0000010100000000#16 = .op .bootGie := by decide
theorem test_decode_pinSet_release : decode 0b0001000000010011#16 = .op (.pinSet 3 true) := by decide
theorem test_decode_pinSet_press : decode 0b0001000000000001#16 = .op (.pinSet 1 false) := by decide
theorem test_decode_svcEnter : decode 0b0010000000000000#16 = .op .svcEnter := by decide
theorem test_decode_svcClear : decode 0b0010000100000110#16 = .op (.svcClear 0b0110#4) := by decide
theorem test_decode_svcSnap : decode 0b0010001000000000#16 = .op .svcSnap := by decide
theorem test_decode_svcRearm : decode 0b0010001100000101#16 = .op (.svcRearm 0b0101#4) := by decide
theorem test_decode_svcBtn1 : decode 0b0010010000000000#16 = .op .svcBtn1 := by decide
theorem test_decode_svcBtn2 : decode 0b0010010100000000#16 = .op .svcBtn2 := by decide
theorem test_decode_svcBtn3 : decode 0b0010011000000000#16 = .op .svcBtn3 := by decide
theorem test_decode_svcBtn4 : decode 0b0010011100000000#16 = .op .svcBtn4 := by decide
theorem test_decode_svcExit : decode 0b0010100000000000#16 = .op .svcExit := by decide
theorem test_decode_loopSetPeriod : decode 0b0011011111010000#16 = .op (.loopSetPeriod 2000#12) := by decide
theorem test_decode_loopReadPlay : decode 0b0100000000000000#16 = .op .loopReadPlay := by decide
theorem test_decode_loopReadFlash : decode 0b0100000100000000#16 = .op .loopReadFlash := by decide
theorem test_decode_loopFlashTgl : decode 0b0100001000000010#16 = .op (.loopFlashTgl 0b10#2) := by decide
theorem test_decode_loopDelay : decode 0b0100001100000000#16 = .op .loopDelay := by decide

/-- The words V1 lists as Invalid. -/
theorem test_decode_invalid_words :
    ([0x0040#16, 0x0101#16, 0x0600#16, 0x1004#16, 0x1100#16, 0x2110#16, 0x2900#16, 0x4200#16, 0x4400#16, 0x5000#16,
      0xF000#16].all fun w => decode w == .invalid w) = true := by rfl

/-- The byte form of `PIN_SET 1, 1`, most significant byte first (R61, R89). -/
theorem test_decodeBytes_order : decodeBytes [0x10, 0x11, 0x43] = .word (.op (.pinSet 1 true)) [0x43] := by decide

theorem test_decodeBytes_truncated : decodeBytes [0x10] = .truncated [0x10] := by decide

theorem test_decodeTableWord : decodeTableWord 16 0x31F4 = some (.loopSetPeriod 500#12) := by decide

/-! Trace assembly (R87, R88). -/

theorem test_assemble_comment : assembleLine "LOOP_SET_PERIOD 500 ; 0x31F4" = some [.loopSetPeriod 500#12] := by decide

theorem test_assemble_pseudo : assembleLine "RELEASE 3" = some [.pinSet 2 true] := by decide

theorem test_assemble_refuses_short_mask : assembleLine "SVC_CLEAR 0b111" = none := by decide

/-- R88: QUIET_ITER with `play = 0` and `flash = 0` is one iteration; with `flash = 1` it is not enabled, though each of its
lines would step. -/
theorem test_quietIter_condition :
    (after (Pseudo.quietIter.perform Pseudo.quietIter.expand sBoot) (fun t => t.lpc == .top && t.tone == some 0#12) &&
      denied (Pseudo.quietIter.perform Pseudo.quietIter.expand { sBoot with flash := true }) &&
      denied (Pseudo.quietIter.perform Pseudo.quietIter.expand { sBoot with play := true }) &&
      after (execAll Pseudo.quietIter.expand { sBoot with flash := true }) (fun t => t.lpc == .ftglA)) = true := by decide

/-- R88: an operation of another agent between two lines is admitted, a line missing is not. -/
theorem test_pseudo_spelledBy :
    (Pseudo.quietIter.spelledBy [.loopReadPlay, .pinSet 0 false, .loopSetPeriod 0#12, .loopReadFlash] &&
      !Pseudo.quietIter.spelledBy [.loopReadPlay, .loopReadFlash]) = true := by decide

/-- R32: `MODE[0]` is `play`, `MODE[1]` is `flash`. -/
theorem test_mode_view :
    ({ sBoot with play := true } : State).mode = 0b01#2 ∧ ({ sBoot with flash := true } : State).mode = 0b10#2 := by decide

/-- R53: the input signals of four operations. -/
theorem test_input_signals :
    (inputsOf (.pinSet 3 false) sBoot).swIn = 0b0111#4 ∧ (inputsOf .bootSwCfg sBoot).cfgSw = true ∧
      (inputsOf (.loopFlashTgl 0b10#2) sBoot).loopTgl = 0b10#2 ∧ (inputsOf .svcEnter (pressed 3)).swIn = 0b0111#4 := by
  decide

/-! ## Single steps, from V2 to V6 -/

/-- V2: a press of pin 1, armed for a press, is latched. -/
theorem test_pinSet_latches :
    after (exec (.pinSet 1 false) sBoot) (fun t => t.lvl == 0b1101#4 && t.pend == 0b0010#4) = true := by decide

/-- V2: the release of pin 1, armed for a press, is not. -/
theorem test_pinSet_wrong_direction :
    after (exec (.pinSet 1 true) { sBoot with lvl := 0b1101#4 })
      (fun t => t.lvl == 0b1111#4 && t.pend == 0b0000#4) = true := by decide

/-- V6: 0x001A at launch. -/
theorem test_reset_draws :
    after (exec (.reset 0b1010#4 0b01#2) (State.launch Config.default))
      (fun t => t.pend == 0b1010#4 && t.led == 0b01#2 && t.sense == 0b1111#4 && t.lpc == .bootClk) = true := by decide

/-- V6: a second RESET. -/
theorem test_reset_only_first : denied (exec (.reset 0b0000#4 0b00#2) State.reset) = true := by decide

/-- V6: `lpc = BOOT_CLK` does not admit BOOT_SW_CFG. -/
theorem test_bootSwCfg_too_early : denied (exec .bootSwCfg State.reset) = true := by decide

/-- S_boot is where the five boot words lead (95_test_vectors.md section 0). -/
theorem test_boot_words : execWords [0x0100#16, 0x0200#16, 0x0300#16, 0x0400#16, 0x0500#16] State.reset = .next sBoot := by
  rfl

/-- V3: no request at S_boot. -/
theorem test_svcEnter_without_request : denied (exec .svcEnter sBoot) = true := by decide

/-- V3: S_boot and a press of pin 1. -/
theorem test_svcEnter :
    after (exec .svcEnter { sBoot with pend := 0b0010#4, lvl := 0b1101#4 })
      (fun t => t.seen == some 0b0010#4 && t.svc == .clr && t.pend == 0b0010#4) = true := by decide

/-- V3: 0x2102 under `either` clears pin 1 and leaves pin 2. -/
theorem test_svcClear :
    after (exec (.svcClear 0b0010#4) { atSvc .clr 0b1111#4 with pend := 0b0110#4 })
      (fun t => t.pend == 0b0100#4 && t.svc == .snap) = true := by decide

/-- V3: 0x2101 misses the observed pin; 0x210F is not the observed mask; 0x2102 is not the group. -/
theorem test_svcClear_scopes :
    (denied (exec (.svcClear 0b0001#4) (atSvc .clr 0b1111#4)) &&
      denied (exec (.svcClear 0b1111#4) (withParams .observed .may .split (atSvc .clr 0b1111#4))) &&
      denied (exec (.svcClear 0b0010#4) (withParams .group .may .split (atSvc .clr 0b1111#4)))) = true := by decide

/-- V3: the snapshot. -/
theorem test_svcSnap :
    after (exec .svcSnap { atSvc .snap 0b1111#4 with lvl := 0b1101#4 })
      (fun t => t.snap == some 0b1101#4 && t.svc == .rearm) = true := by decide

/-- V3: the draw Q = 0b0100 is admitted under `may` where sense and level both differ from the snapshot. -/
theorem test_svcRearm_draw :
    after (exec (.svcRearm 0b0100#4) (atSvc .rearm 0b1011#4))
      (fun t => t.sense == 0b1011#4 && t.pend == 0b0100#4 && t.svc == .b1) = true := by decide

/-- V3: Q = 0b0010 where the level equals the snapshot is refused under `may` and admitted under `any`. -/
theorem test_svcRearm_params :
    (denied (exec (.svcRearm 0b0010#4) { atSvc .rearm 0b1101#4 with lvl := 0b1101#4 }) &&
      after (exec (.svcRearm 0b0010#4) (withParams .either .any .split { atSvc .rearm 0b1101#4 with lvl := 0b1101#4 }))
        (fun t => t.pend == 0b0010#4) &&
      denied (exec (.svcRearm 0b0100#4) (withParams .either .never .split (atSvc .rearm 0b1011#4)))) = true := by decide

/-- V3: Button 1. -/
theorem test_svcBtn1 :
    after (exec .svcBtn1 (atSvc .b1 0b1110#4))
      (fun t => t.play && t.events == [.mode true false] && t.svc == .b2) = true := by decide

theorem test_svcBtn1_released :
    after (exec .svcBtn1 (atSvc .b1 0b1111#4)) (fun t => !t.play && t.events == [] && t.svc == .b2) = true := by decide

/-- V3: Button 2 is Green, bit 1. -/
theorem test_svcBtn2 :
    after (exec .svcBtn2 (atSvc .b2 0b1101#4))
      (fun t => t.led == 0b10#2 && t.events == [.led 0b10#2] && t.svc == .b3) = true := by decide

/-- V3: Button 3 is Red, bit 0. -/
theorem test_svcBtn3 :
    after (exec .svcBtn3 { atSvc .b3 0b1011#4 with led := 0b10#2 })
      (fun t => t.led == 0b11#2 && t.svc == .b4) = true := by decide

/-- V3: Button 4 starts the flashing and leaves the LEDs. -/
theorem test_svcBtn4_starts :
    after (exec .svcBtn4 { atSvc .b4 0b0111#4 with led := 0b11#2 })
      (fun t => t.flash && t.led == 0b11#2 && t.svc == .exit) = true := by decide

/-- V3, V4: Button 4 stops it and emits the LEDs' value. -/
theorem test_svcBtn4_stops :
    after (exec .svcBtn4 { atSvc .b4 0b0111#4 with led := 0b10#2, flash := true })
      (fun t => !t.flash && t.led == 0b00#2 && t.events == [.mode false false, .led 0b00#2]) = true := by decide

/-- V3: the end of a service. -/
theorem test_svcExit : after (exec .svcExit (atSvc .exit 0b1101#4)) (fun t => t.svc == .idle) = true := by decide

/-- V3: during a service the loop is preempted and the switches are not. -/
theorem test_preemption :
    (denied (exec .loopReadPlay (atSvc .clr 0b1111#4)) &&
      after (exec (.pinSet 2 false) (atSvc .clr 0b1111#4)) (fun t => t.pend == 0b0100#4)) = true := by decide

/-- V5: the two branches at TOP. -/
theorem test_loopReadPlay :
    (after (exec .loopReadPlay sBoot) (fun t => t.lpc == .sil && t.events == [.readPlay false]) &&
      after (exec .loopReadPlay { sBoot with play := true }) (fun t => t.lpc == .swpSet 0)) = true := by decide

/-- V5: SIL takes 0 and nothing else. -/
theorem test_loopSetPeriod_silence :
    (after (exec (.loopSetPeriod 0#12) (atLoop .sil)) (fun t => t.tone == some 0#12 && t.lpc == .fchk) &&
      denied (exec (.loopSetPeriod 500#12) (atLoop .sil))) = true := by decide

/-- V5: the turning points of the sweep. -/
theorem test_loopSetPeriod_sweep :
    (after (exec (.loopSetPeriod 2000#12) (atLoop (.swpSet 15))) (fun t => t.lpc == .swpDly 15) &&
      after (exec (.loopSetPeriod 2000#12) (atLoop (.swpSet 16))) (fun t => t.tone == some 2000#12) &&
      after (exec (.loopSetPeriod 500#12) (atLoop (.swpSet 31))) (fun t => t.lpc == .swpDly 31) &&
      denied (exec (.loopSetPeriod 600#12) (atLoop (.swpSet 0)))) = true := by decide

/-- V5: the delays. -/
theorem test_loopDelay :
    (after (exec .loopDelay (atLoop (.swpDly 30))) (fun t => t.lpc == .swpSet 31) &&
      after (exec .loopDelay (atLoop (.swpDly 31))) (fun t => t.lpc == .fchk) &&
      after (exec .loopDelay (atLoop .fdly)) (fun t => t.lpc == .top) && denied (exec .loopDelay sBoot)) = true := by decide

/-- V5: the branches at FCHK. -/
theorem test_loopReadFlash :
    (after (exec .loopReadFlash (atLoop .fchk)) (fun t => t.lpc == .top) &&
      after (exec .loopReadFlash { atLoop .fchk with flash := true }) (fun t => t.lpc == .ftglA) &&
      after (exec .loopReadFlash (withParams .either .may .atomic { atLoop .fchk with flash := true }))
        (fun t => t.lpc == .ftgl)) = true := by decide

/-- V5: the toggle's first half, its second, and the masks that do not fit. -/
theorem test_loopFlashTgl_split :
    (after (exec (.loopFlashTgl 0b10#2) (atLoop .ftglA)) (fun t => t.led == 0b10#2 && t.lpc == .ftglB .green) &&
      after (exec (.loopFlashTgl 0b01#2) { atLoop (.ftglB .green) with led := 0b10#2 })
        (fun t => t.led == 0b11#2 && t.lpc == .fdly) &&
      denied (exec (.loopFlashTgl 0b10#2) (atLoop (.ftglB .green))) &&
      denied (exec (.loopFlashTgl 0b11#2) (atLoop .ftglA))) = true := by decide

/-- V5: the atomic toggle. -/
theorem test_loopFlashTgl_atomic :
    after (exec (.loopFlashTgl 0b11#2) { atLoop .ftgl with led := 0b01#2 })
      (fun t => t.led == 0b10#2 && t.lpc == .fdly) = true := by decide

/-- The host's way in: a table row's word is the next step's operation. -/
theorem test_step_withFetchWord : step (State.reset.withFetchWord 16 0x0100) = .next { State.reset with lpc := .bootSw } := by
  rfl

theorem test_step_invalid : step (State.reset.withFetchWord 16 0x4200) = .refused (.invalid 0x4200) := by rfl

/-! ## Witnesses: what the obligations assume can be met -/

theorem witness_DecodeOfEncodeIsTheOperation : (Instr.loopFlashTgl 0b01#2).WellFormed := by decide

/-- One reserved word for each clause of R85. -/
theorem witness_InvalidWordsAreTheReservedOnes :
    [0x5000#16, 0x0600#16, 0x1100#16, 0x2900#16, 0x4400#16, 0x0040#16, 0x0101#16, 0x1004#16, 0x2110#16, 0x2001#16,
      0x4001#16, 0x4204#16, 0x4200#16].all reservedWord = true := by rfl

theorem witness_AssemblyReadsBackWhatItPrints : (Instr.loopFlashTgl 0b11#2).WellFormed := by decide

theorem witness_StepRunsTheNextWord :
    ({ sBoot with trace := [0x4000] } : State).trace = 0x4000#16 :: [] ∧ decode 0x4000#16 = .op .loopReadPlay ∧
      ({ sBoot with trace := [0x4200] } : State).trace = 0x4200#16 :: [] ∧ decode 0x4200#16 = .invalid 0x4200#16 ∧
      sBoot.trace = [] := by decide

theorem witness_StepRunsTheEncodedOperation : Instr.loopReadPlay.WellFormed := by decide

theorem witness_ResetSetsEveryField :
    (State.launch Config.default).started = false ∧ State.reset.started = true := by decide

theorem witness_NothingRunsBeforeReset :
    (State.launch Config.default).started = false ∧ ∀ r l, (Instr.bootClk ≠ .reset r l) := by decide

theorem witness_BootOperationsConfigureTheBlock :
    (∀ p ∈ [LoopPos.bootClk, .bootSw, .bootLed, .bootBuz, .bootGie],
      (atLoop p).started = true ∧ (atLoop p).svc = .idle ∧ (atLoop p).lpc = p) ∧
    ¬ ((atLoop .top).svc = .idle ∧ (atLoop .top).lpc = .bootClk) ∧
    ¬ ((atLoop .bootClk).svc = .idle ∧ (atLoop .bootClk).lpc = .bootSw) ∧
    ¬ ((atLoop .bootSw).svc = .idle ∧ (atLoop .bootSw).lpc = .bootLed) ∧
    ¬ ((atLoop .bootLed).svc = .idle ∧ (atLoop .bootLed).lpc = .bootBuz) ∧
    ¬ ((atSvc .clr 0b1111#4).svc = .idle ∧ (atSvc .clr 0b1111#4).lpc = .bootGie) := by decide

theorem witness_PinSetDrivesAndLatches : sBoot.started = true := by decide

theorem witness_PinSetsOfTwoPinsCommute : (0 : Pin) ≠ 3 ∧ sBoot.started = true := by decide

theorem witness_ServiceEntryOnRequest :
    (∀ p ∈ [0b0001#4, 0b1111#4], ({ sBoot with pend := p } : State).started = true ∧
      ({ sBoot with pend := p } : State).gie = true ∧ ({ sBoot with pend := p } : State).pend &&& sBoot.ie ≠ 0b0000#4 ∧
      ({ sBoot with pend := p } : State).svc = .idle) ∧
    ¬ (sBoot.gie = true ∧ sBoot.pend &&& sBoot.ie ≠ 0b0000#4 ∧ sBoot.svc = .idle) := by decide

/-- For each scope a mask that is admitted and one that is not. -/
theorem witness_ServiceClearWithinItsScope :
    (∀ c ∈ [ClearScope.group, .observed, .either],
      (withParams c .may .split (atSvc .clr 0b1111#4)).started = true ∧
      (withParams c .may .split (atSvc .clr 0b1111#4)).svc = .clr ∧
      (withParams c .may .split (atSvc .clr 0b1111#4)).seen = some 0b0010#4 ∧
      (withParams c .may .split (atSvc .clr 0b1111#4)).cfg.clearScope = c) ∧
    ¬ (0b0010#4 = 0b1111#4) ∧ ¬ (0b1111#4 = 0b0010#4) ∧
    (∀ n, pinBit 0b0010#4 n = true → pinBit 0b0110#4 n = true) ∧
    ¬ (∀ n, pinBit 0b0010#4 n = true → pinBit 0b0001#4 n = true) ∧ sBoot.svc ≠ .clr := by decide

theorem witness_SnapshotTakesAllLevels :
    (atSvc .snap 0b1111#4).started = true ∧ (atSvc .snap 0b1111#4).svc = .snap ∧ sBoot.svc ≠ .snap := by decide

/-- For each parameter value a draw that is admitted and, under `never`, `may` and `any`, one that is not. -/
theorem witness_RearmFromSnapshot :
    (∀ p ∈ [SenseWritePending.never, .may, .any],
      (withParams .either p .split (atSvc .rearm 0b1011#4)).started = true ∧
      (withParams .either p .split (atSvc .rearm 0b1011#4)).svc = .rearm ∧
      (withParams .either p .split (atSvc .rearm 0b1011#4)).snap = some 0b1011#4 ∧
      (withParams .either p .split (atSvc .rearm 0b1011#4)).cfg.senseWritePending = p) ∧
    (∀ n, pinBit 0b0000#4 n = true → False) ∧ ¬ (∀ n, pinBit 0b0100#4 n = true → False) ∧
    (∀ n, pinBit 0b0100#4 n = true → pinBit 0b1111#4 n ≠ pinBit 0b1011#4 n ∧ pinBit 0b1111#4 n ≠ pinBit 0b1011#4 n) ∧
    ¬ (∀ n, pinBit 0b0001#4 n = true → pinBit 0b1111#4 n ≠ pinBit 0b1011#4 n) ∧ sBoot.svc ≠ .rearm := by decide

theorem witness_Button1InvertsPlay :
    (atSvc .b1 0b1110#4).started = true ∧ (atSvc .b1 0b1110#4).svc = .b1 ∧ (atSvc .b1 0b1110#4).snap = some 0b1110#4 ∧
      pinBit 0b1110#4 0 = false ∧ pinBit 0b0001#4 0 = true ∧ sBoot.svc ≠ .b1 := by decide

theorem witness_Button2InvertsGreen :
    (atSvc .b2 0b1101#4).started = true ∧ (atSvc .b2 0b1101#4).svc = .b2 ∧ (atSvc .b2 0b1101#4).snap = some 0b1101#4 ∧
      pinBit 0b1101#4 1 = false ∧ pinBit 0b0010#4 1 = true ∧ sBoot.svc ≠ .b2 := by decide

theorem witness_Button3InvertsRed :
    (atSvc .b3 0b1011#4).started = true ∧ (atSvc .b3 0b1011#4).svc = .b3 ∧ (atSvc .b3 0b1011#4).snap = some 0b1011#4 ∧
      pinBit 0b1011#4 2 = false ∧ pinBit 0b0100#4 2 = true ∧ sBoot.svc ≠ .b3 := by decide

theorem witness_Button4TogglesFlash :
    (atSvc .b4 0b0111#4).started = true ∧ (atSvc .b4 0b0111#4).svc = .b4 ∧ (atSvc .b4 0b0111#4).snap = some 0b0111#4 ∧
      pinBit 0b0111#4 3 = false ∧ (atSvc .b4 0b0111#4).flash = false ∧
      ({ atSvc .b4 0b0111#4 with flash := true } : State).flash = true ∧ pinBit 0b1000#4 3 = true ∧
      sBoot.svc ≠ .b4 := by decide

theorem witness_ServiceExitReturns :
    (atSvc .exit 0b1111#4).started = true ∧ (atSvc .exit 0b1111#4).svc = .exit ∧ sBoot.svc ≠ .exit := by decide

theorem witness_ReadingUnsetFaults :
    ∀ p ∈ [SvcPos.clr, .rearm, .b1, .b2, .b3, .b4],
      ({ sBoot with svc := p } : State).started = true ∧ ({ sBoot with svc := p } : State).svc = p ∧
      ({ sBoot with svc := p } : State).seen = none ∧ ({ sBoot with svc := p } : State).snap = none := by decide

/-- One run step of the sequencer, one of another agent, and a RESET. -/
theorem witness_SequencerAdvancesInOrder :
    Instr.svcExit.agent = .seq ∧ exec .svcExit (atSvc .exit 0b1111#4) = .next (atSvc .idle 0b1111#4) ∧
      Instr.bootClk.agent ≠ .seq ∧ exec .bootClk (atLoop .bootClk) = .next (atLoop .bootSw) ∧
      exec (.reset 0b0000#4 0b00#2) (State.launch Config.default) = .next State.reset :=
  ⟨rfl, rfl, by decide, rfl, rfl⟩

/-- The ends of both passes. -/
theorem witness_SweepPeriodFunction :
    ((0 : Fin 32).val ≤ 15 ∧ (15 : Fin 32).val ≤ 15) ∧ 16 ≤ (16 : Fin 32).val ∧ 16 ≤ (31 : Fin 32).val := by decide

theorem witness_SetPeriodSendsTheLoopsCommand :
    (∀ k ∈ [(0 : Fin 32), 15, 16, 31], (atLoop (.swpSet k)).started = true ∧ (atLoop (.swpSet k)).svc = .idle ∧
      (atLoop (.swpSet k)).lpc = .swpSet k) ∧
    ((atLoop .sil).started = true ∧ (atLoop .sil).svc = .idle ∧ (atLoop .sil).lpc = .sil) ∧
    ¬ ((atLoop .top).svc = .idle ∧
      ((∃ k, (atLoop .top).lpc = .swpSet k ∧ 500#12 = per k) ∨ ((atLoop .top).lpc = .sil ∧ 500#12 = 0#12))) := by decide

theorem witness_ReadPlayBranches :
    sBoot.started = true ∧ sBoot.svc = .idle ∧ sBoot.lpc = .top ∧ sBoot.play = false ∧
      ({ sBoot with play := true } : State).play = true ∧
      ¬ ((atLoop .sil).svc = .idle ∧ (atLoop .sil).lpc = .top) := by decide

theorem witness_ReadFlashBranches :
    (∀ f ∈ [FlashToggleForm.split, .atomic], ∀ b ∈ [true, false],
      (withParams .either .may f { atLoop .fchk with flash := b }).started = true ∧
      (withParams .either .may f { atLoop .fchk with flash := b }).svc = .idle ∧
      (withParams .either .may f { atLoop .fchk with flash := b }).lpc = .fchk ∧
      (withParams .either .may f { atLoop .fchk with flash := b }).flash = b ∧
      (withParams .either .may f { atLoop .fchk with flash := b }).cfg.flashToggleForm = f) ∧
    ¬ (sBoot.svc = .idle ∧ sBoot.lpc = .fchk) := by decide

theorem witness_FlashToggleInvertsItsMask :
    (∀ p ∈ [LoopPos.ftglA, .ftglB .red, .ftglB .green, .ftgl], (atLoop p).started = true ∧ (atLoop p).svc = .idle ∧
      (atLoop p).lpc = p) ∧
    ¬ (sBoot.svc = .idle ∧
      ((sBoot.lpc = .ftglA ∧ (0b01#2 = 0b01#2 ∨ 0b01#2 = 0b10#2)) ∨
        (∃ fm : Led, sBoot.lpc = .ftglB fm ∧ 0b01#2 = 0b11#2 ^^^ fm.mask) ∨ (sBoot.lpc = .ftgl ∧ 0b01#2 = 0b11#2))) :=
  ⟨by decide, by simp [sBoot]⟩

theorem witness_DelayOnlyMovesTheLoop :
    (∀ p ∈ [LoopPos.swpDly 0, .swpDly 30, .swpDly 31, .fdly], (atLoop p).started = true ∧ (atLoop p).svc = .idle ∧
      (atLoop p).lpc = p) ∧
    (0 : Fin 32).val < 31 ∧ (30 : Fin 32).val < 31 ∧
    ¬ (sBoot.svc = .idle ∧ ((∃ k, sBoot.lpc = .swpDly k) ∨ sBoot.lpc = .fdly)) := by decide

theorem witness_LoopIsPreemptedByAService :
    (atSvc .clr 0b1111#4).svc ≠ .idle ∧ Instr.bootGie.agent = .loop ∧ (atSvc .clr 0b1111#4).started = true := by decide

theorem witness_OnlyNamedOperationsWriteEachField :
    sBoot.started = true ∧ exec .loopReadPlay sBoot = .next (endOf [.loopReadPlay] sBoot) := ⟨rfl, rfl⟩

/-- A write through each port that changes the register. -/
theorem witness_LedWritesComeThroughOnePort :
    ((atSvc .b2 0b1101#4).started = true ∧
      exec .svcBtn2 (atSvc .b2 0b1101#4) = .next (endOf [.svcBtn2] (atSvc .b2 0b1101#4)) ∧
      (endOf [.svcBtn2] (atSvc .b2 0b1101#4)).led ≠ (atSvc .b2 0b1101#4).led) ∧
    ((atLoop .ftgl).started = true ∧
      exec (.loopFlashTgl 0b11#2) (atLoop .ftgl) = .next (endOf [.loopFlashTgl 0b11#2] (atLoop .ftgl)) ∧
      (endOf [.loopFlashTgl 0b11#2] (atLoop .ftgl)).led ≠ (atLoop .ftgl).led) :=
  ⟨⟨rfl, rfl, by decide⟩, rfl, rfl, by decide⟩

/-- A step for each clause: the button steps with the bit low and high, a write that keeps the LEDs at 0b00 (V4), the second
`tone(2000)`, the reads, the toggle, and operations that emit nothing. -/
theorem witness_EventsAreAppendedForEveryWrite :
    ∀ x ∈ [(Instr.svcBtn1, atSvc .b1 0b0000#4), (.svcBtn1, atSvc .b1 0b1111#4), (.svcBtn2, atSvc .b2 0b0000#4),
        (.svcBtn2, atSvc .b2 0b1111#4), (.svcBtn3, atSvc .b3 0b0000#4), (.svcBtn3, atSvc .b3 0b1111#4),
        (.svcBtn4, { atSvc .b4 0b0111#4 with flash := true }),
        (.svcBtn4, { atSvc .b4 0b0111#4 with flash := true, led := 0b01#2 }), (.svcBtn4, atSvc .b4 0b0111#4),
        (.svcBtn4, atSvc .b4 0b1111#4), (.loopSetPeriod 2000#12, { atLoop (.swpSet 16) with tone := some 2000#12 }),
        (.loopSetPeriod 0#12, atLoop .sil), (.loopReadPlay, sBoot), (.loopReadFlash, atLoop .fchk),
        (.loopFlashTgl 0b11#2, atLoop .ftgl), (.pinSet 0 false, sBoot), (.svcClear 0b0010#4, atSvc .clr 0b1111#4)],
      x.2.started = true ∧ after (exec x.1 x.2) (fun _ => true) = true := by decide

theorem witness_LedIsItsLastEvent :
    ∃ t, (atLoop .ftglA).started = true ∧ execAll [.loopFlashTgl 0b01#2, .loopFlashTgl 0b10#2] (atLoop .ftglA) = .next t :=
  ⟨_, rfl, rfl⟩

theorem witness_LoopNeverWritesModeFlags :
    ∃ t, sBoot.started = true ∧ (∀ i ∈ [Instr.pinSet 0 false, .loopReadPlay], i.agent ≠ .seq) ∧
      execAll [.pinSet 0 false, .loopReadPlay] sBoot = .next t :=
  ⟨_, rfl, by decide, rfl⟩

theorem witness_RequestPersistsUntilEntry :
    ∃ t, ({ sBoot with pend := 0b1000#4 } : State).started = true ∧ ({ sBoot with pend := 0b1000#4 } : State).req = true ∧
      Instr.loopReadPlay ≠ .svcEnter ∧ exec .loopReadPlay { sBoot with pend := 0b1000#4 } = .next t :=
  ⟨_, rfl, by decide, by decide, rfl⟩

theorem witness_LoopNeverLeavesItsCycle :
    (∃ t, sBoot.started = true ∧ sBoot.lpc.isBoot = false ∧ exec .loopReadPlay sBoot = .next t) ∧
    ∃ t, (atLoop .bootGie).started = true ∧ (atLoop .bootGie).lpc.isBoot = true ∧ exec .bootGie (atLoop .bootGie) = .next t :=
  ⟨⟨_, rfl, rfl, rfl⟩, _, rfl, rfl, rfl⟩

/-- S_boot at the end of a service that saw Button 2 pressed, with the words of a trace to come. -/
def sExit (ws : List Word) : State :=
  { atSvc .exit 0b1101#4 with lvl := 0b1101#4, sense := 0b1101#4, trace := ws }

theorem inv_sExit (ws : List Word) : Inv (sExit ws) := by
  constructor <;> simp [sExit, atSvc, sBoot, State.reset, LoopPos.isBoot, LoopPos.code]

theorem witness_InvariantKeptByEveryStep :
    ∃ t, Inv (sExit [0x2800]) ∧ step (sExit [0x2800]) = .next t := ⟨_, inv_sExit _, rfl⟩

theorem witness_UnsetReadIsUnreachable : Inv (sExit []) := inv_sExit _

theorem witness_SenseIsTheSnapshotAfterAService :
    ∃ t, Inv (sExit []) ∧ exec .svcExit (sExit []) = .next t := ⟨_, inv_sExit _, rfl⟩

/-! Runs. A 64-operation sweep is the longest. -/

/-- No operation, one, and the whole sweep. -/
theorem witness_SweepRunsToCompletion :
    (atLoop (.swpSet 0)).started = true ∧ (atLoop (.swpSet 0)).lpc = .swpSet 0 ∧
    ((∃ t, execAll [] (atLoop (.swpSet 0)) = .next t) ∧ (opsOf .loop []).length % 2 = 0) ∧
    ((∃ t, execAll [.loopSetPeriod 500#12] (atLoop (.swpSet 0)) = .next t) ∧
      (opsOf .loop [.loopSetPeriod 500#12]).length % 2 = 1) ∧
    ((∃ t, execAll Pseudo.sweep.expand (atLoop (.swpSet 0)) = .next t) ∧ (opsOf .loop Pseudo.sweep.expand).length = 64) :=
  ⟨rfl, rfl, ⟨⟨_, rfl⟩, rfl⟩, ⟨⟨_, rfl⟩, rfl⟩, ⟨_, rfl⟩, by decide⟩

theorem witness_SweepRunsToCompletion_iteration :
    ∃ t, ({ sBoot with play := true } : State).started = true ∧ ({ sBoot with play := true } : State).lpc = .top ∧
      ({ sBoot with play := true } : State).play = true ∧ .loopReadPlay ∉ [Instr.loopSetPeriod 500#12] ∧
      execAll (.loopReadPlay :: [.loopSetPeriod 500#12]) { sBoot with play := true } = .next t :=
  ⟨_, rfl, rfl, rfl, by decide, rfl⟩

theorem witness_PausedIterationSilencesOnce :
    ∃ t, sBoot.started = true ∧ sBoot.lpc = .top ∧ sBoot.play = false ∧ .loopReadPlay ∉ [Instr.loopSetPeriod 0#12] ∧
      opsOf .loop [.loopSetPeriod 0#12] ≠ [] ∧ execAll (.loopReadPlay :: [.loopSetPeriod 0#12]) sBoot = .next t :=
  ⟨_, rfl, rfl, rfl, by decide, by decide, rfl⟩

/-- The 70 operations of S7: a sweep, the flash toggle in the split form, and the silencing command. -/
def pauseOps : List Instr :=
  Pseudo.sweep.expand ++ .loopReadFlash :: (Pseudo.flashTick .red).expand ++ [.loopReadPlay, .loopSetPeriod 0#12]

/-- Loop operations leave `play` alone. -/
theorem play_of_loop_op {i : Instr} {s t : State} (ha : i.agent = .loop) (h : exec i s = .next t) : t.play = s.play := by
  cases i <;> simp only [Instr.agent, reduceCtorEq] at ha
  case bootClk => obtain ⟨-, -, -, rfl⟩ := exec_bootClk_next_iff.mp h; rfl
  case bootSwCfg => obtain ⟨-, -, -, rfl⟩ := exec_bootSwCfg_next_iff.mp h; rfl
  case bootLedCfg => obtain ⟨-, -, -, rfl⟩ := exec_bootLedCfg_next_iff.mp h; rfl
  case bootBuz => obtain ⟨-, -, -, rfl⟩ := exec_bootBuz_next_iff.mp h; rfl
  case bootGie => obtain ⟨-, -, -, rfl⟩ := exec_bootGie_next_iff.mp h; rfl
  case loopSetPeriod => obtain ⟨-, -, _, -, rfl⟩ := exec_loopSetPeriod_next_iff.mp h; rfl
  case loopReadPlay => obtain ⟨-, -, -, rfl⟩ := exec_loopReadPlay_next_iff.mp h; rfl
  case loopReadFlash => obtain ⟨-, -, -, rfl⟩ := exec_loopReadFlash_next_iff.mp h; rfl
  case loopFlashTgl => obtain ⟨-, -, _, -, rfl⟩ := exec_loopFlashTgl_next_iff.mp h; rfl
  case loopDelay => obtain ⟨-, -, _, -, rfl⟩ := exec_loopDelay_next_iff.mp h; rfl

theorem play_of_loop_ops {ops : List Instr} {s t : State} (ha : ∀ i ∈ ops, i.agent = .loop)
    (h : execAll ops s = .next t) : t.play = s.play := by
  induction ops generalizing s with
  | nil => simp only [execAll_nil, Host.Outcome.next.injEq] at h; rw [h]
  | cons i is ih =>
    obtain ⟨u, hu, ht⟩ := execAll_cons_next_iff.mp h
    rw [ih (fun j hj => ha j (List.mem_cons_of_mem i hj)) ht, play_of_loop_op (ha i List.mem_cons_self) hu]

theorem witness_PauseLatencyAtMostSeventy :
    ∃ t, ({ atLoop (.swpSet 0) with flash := true } : State).started = true ∧
      ({ atLoop (.swpSet 0) with flash := true } : State).lpc = .swpSet 0 ∧
      (∀ (pre : List Instr) (u : State), pre <+: pauseOps →
        execAll pre { atLoop (.swpSet 0) with flash := true } = .next u → u.play = false) ∧
      70 ≤ (opsOf .loop pauseOps).length ∧ execAll pauseOps { atLoop (.swpSet 0) with flash := true } = .next t := by
  have hl : ∀ i ∈ pauseOps, i.agent = .loop := by decide
  exact ⟨_, rfl, rfl, fun pre u hp hu => play_of_loop_ops (fun i hi => hl i (hp.subset hi)) hu, by decide, rfl⟩

/-- A service up to its snapshot, and the rest of it. -/
def firstHalf : List Instr := [.svcEnter, .svcClear 0b1111#4]
def secondHalf : List Instr := [.svcRearm 0b0000#4, .svcBtn1, .svcBtn2, .svcBtn3, .svcBtn4, .svcExit]

/-- Two runs that meet at the snapshot are a service (R88's SERVICE). -/
theorem serviceRun_of_run {s u t : State} (h : execAll firstHalf s = .next u)
    (h' : execAll (.svcSnap :: secondHalf) u = .next t) : ServiceRun s u t :=
  ⟨firstHalf, secondHalf, _, _, rfl, rfl, h, h'⟩

theorem witness_ServiceAppliesItsSnapshot :
    ∃ u t, (pressed 1).started = true ∧ ServiceRun (pressed 1) u t := ⟨_, _, rfl, serviceRun_of_run rfl rfl⟩

/-- Pin n is pressed, serviced, bounces and is serviced a second time: the states at the snapshots and the ends. -/
def atSnap (n : Pin) : State := endOf firstHalf (pressed n)
def atEnd (n : Pin) : State := endOf (.svcSnap :: secondHalf) (atSnap n)
def atBounce (n : Pin) : State := endOf [.pinSet n true, .pinSet n false] (atEnd n)
def atSnapAgain (n : Pin) : State := endOf firstHalf (atBounce n)
def atEndAgain (n : Pin) : State := endOf (.svcSnap :: secondHalf) (atSnapAgain n)

theorem low_pin_is_n : ∀ n m : Pin, pinBit (atSnap n).lvl m = (m != n) ∧ pinBit (atSnapAgain n).lvl m = (m != n) := by
  decide

theorem serviceRun_pressed (n : Pin) : ServiceRun (pressed n) (atSnap n) (atEnd n) := by
  fin_cases n <;> exact serviceRun_of_run rfl rfl

theorem serviceRun_bounced (n : Pin) : ServiceRun (atBounce n) (atSnapAgain n) (atEndAgain n) := by
  fin_cases n <;> exact serviceRun_of_run rfl rfl

theorem execAll_bounce (n : Pin) : execAll [.pinSet n true, .pinSet n false] (atEnd n) = .next (atBounce n) := by
  fin_cases n <;> rfl

/-- R136, S3. -/
theorem witness_OneLowPinTogglesOneFieldAndTwiceRestores (n : Pin) :
    ∃ env s u t s' u' t', s.started = true ∧ (∀ m, pinBit u.lvl m = (m != n)) ∧ (∀ m, pinBit u'.lvl m = (m != n)) ∧
      (∀ i ∈ env, i.agent = .env) ∧ ServiceRun s u t ∧ execAll env t = .next s' ∧ ServiceRun s' u' t' := by
  have he : ∀ i ∈ [Instr.pinSet n true, .pinSet n false], i.agent = .env := by simp [Instr.agent]
  exact ⟨_, _, _, _, _, _, _, rfl, fun m => (low_pin_is_n n m).1, fun m => (low_pin_is_n n m).2, he,
    serviceRun_pressed n, execAll_bounce n, serviceRun_bounced n⟩

/-- Every pin, and each scope with its least and its greatest admitted mask. -/
theorem witness_CleanPressAndReleaseTogglesOnce :
    (sBoot.started = true ∧ sBoot.svc = .idle ∧ sBoot.gie = true ∧ sBoot.ie = 0b1111#4 ∧ sBoot.lvl = 0b1111#4 ∧
      sBoot.sense = 0b1111#4 ∧ sBoot.pend = 0b0000#4) ∧
    ∀ n : Pin, clearOk .group 0b1111#4 (setPinBit 0b0000#4 n true) = true ∧
      clearOk .observed (setPinBit 0b0000#4 n true) (setPinBit 0b0000#4 n true) = true ∧
      clearOk sBoot.cfg.clearScope (setPinBit 0b0000#4 n true) (setPinBit 0b0000#4 n true) = true ∧
      clearOk sBoot.cfg.clearScope 0b1111#4 (setPinBit 0b0000#4 n true) = true := by decide

theorem witness_BootServiceWithNoButtonHeldOnlyClears :
    Config.default.level0 = 0b1111#4 ∧ (0b0001#4 ≠ 0b0000#4 ∧ clearOk Config.default.clearScope 0b0001#4 0b0001#4 = true) ∧
      (0b1111#4 ≠ 0b0000#4 ∧ clearOk Config.default.clearScope 0b1111#4 0b1111#4 = true) := by decide

theorem witness_HeldButtonsReleaseIsNotLatchedAtBoot :
    pinBit ({ Config.default with level0 := 0b1110#4 } : Config).level0 0 = false ∧ pinBit 0b1110#4 0 = false ∧
      pinBit ({ Config.default with level0 := 0b0111#4 } : Config).level0 3 = false ∧ pinBit 0b0000#4 3 = false := by decide

/-- Between the read and the toggle, in both forms, and between the halves of the split one. -/
theorem witness_StaleFlashReadLightsLedsAfterFlashStop :
    (∃ s u t, s.started = true ∧ s.lpc = .ftglA ∧ s.flash = true ∧ ServiceRun s u t ∧ pinBit u.lvl 3 = false) ∧
    (∀ fm : Led, ∃ s u t, s.started = true ∧ s.lpc = .ftglB fm ∧ s.flash = true ∧ ServiceRun s u t ∧
      pinBit u.lvl 3 = false) ∧
    (∃ s u t, s.started = true ∧ s.lpc = .ftgl ∧ s.flash = true ∧ ServiceRun s u t ∧ pinBit u.lvl 3 = false) :=
  ⟨⟨{ pressed 3 with lpc := .ftglA, flash := true }, _, _, rfl, rfl, rfl, serviceRun_of_run rfl rfl, rfl⟩, fun fm => by
    cases fm
    · exact ⟨{ pressed 3 with lpc := .ftglB .red, flash := true }, _, _, rfl, rfl, rfl, serviceRun_of_run rfl rfl, rfl⟩
    · exact ⟨{ pressed 3 with lpc := .ftglB .green, flash := true }, _, _, rfl, rfl, rfl, serviceRun_of_run rfl rfl, rfl⟩,
    ⟨{ pressed 3 with lpc := .ftgl, flash := true }, _, _, rfl, rfl, rfl, serviceRun_of_run rfl rfl, rfl⟩⟩

/-- The scheduler's run from a state with a request is fair. -/
theorem witness_RequestedServiceIsEventuallyEntered :
    ∃ st op n, IsFairRun st op ∧ (st n).started = true ∧ (st n).req = true :=
  ⟨_, _, 0, scheduledRun_fair (s := pressed 0)
    ⟨rfl, fun h => absurd h (by decide), fun h => absurd h (by decide)⟩, rfl, by decide⟩

theorem witness_StartedServiceEventuallyEnds :
    ∃ st op n, IsFairRun st op ∧ (st n).started = true ∧ Inv (st n) ∧ (st n).svc ≠ .idle :=
  ⟨_, _, 0, scheduledRun_fair (s := sExit [])
    ⟨rfl, fun h => absurd h (by decide), fun _ => rfl⟩, rfl, inv_sExit [], by decide⟩

theorem witness_OutputSignalsFollowTheState :
    sBoot.started = true ∧ sBoot.ledOe = true ∧ State.reset.ledOe = false := by decide

/-- Each flag alone shuts QUIET_ITER out; with both 0 a switch may change between its lines. -/
theorem witness_QuietIterationIsOneWholeIteration :
    (∀ s ∈ [{ sBoot with play := true }, { sBoot with flash := true }], ¬ (s.play = false ∧ s.flash = false)) ∧
    (sBoot.started = true ∧ sBoot.svc = .idle ∧ sBoot.lpc = .top ∧ sBoot.play = false ∧ sBoot.flash = false) ∧
    (∀ i ∈ [Instr.loopReadPlay, .pinSet 0 false, .loopSetPeriod 0#12, .loopReadFlash], i.agent ≠ .seq) ∧
    after (Pseudo.quietIter.perform [.loopReadPlay, .pinSet 0 false, .loopSetPeriod 0#12, .loopReadFlash] sBoot)
      (fun _ => true) = true ∧
    (Pseudo.press 0 ≠ .quietIter ∧ (Pseudo.press 0).spelledBy [.pinSet 0 false] = true) := by decide

/-- One step for each signal, and a toggle mask that is not 0. -/
theorem witness_InputSignalsDriveTheirEffects :
    (∀ x ∈ [(Instr.bootSwCfg, atLoop .bootSw), (.bootLedCfg, atLoop .bootLed), (.bootGie, atLoop .bootGie),
        (.pinSet 3 false, sBoot), (.loopFlashTgl 0b11#2, atLoop .ftgl), (.loopReadPlay, sBoot)],
      x.2.started = true ∧ x.2.svc = .idle ∧ after (exec x.1 x.2) (fun _ => true) = true) ∧ 0b11#2 ≠ 0b00#2 ∧
      (inputsOf (.pinSet 0 false) sBoot).swIn ≠ sBoot.lvl ∧ (inputsOf (.pinSet 3 false) sBoot).swIn ≠ sBoot.lvl := by decide

/-- A run with a toggle, and one from launch that begins with RESET. -/
theorem witness_LedIsTheCompositionOfItsWrites :
    ∃ t u, (atLoop .ftglA).started = true ∧ execAll [.loopFlashTgl 0b01#2, .loopFlashTgl 0b10#2] (atLoop .ftglA) = .next t ∧
      execAll (.reset 0b0000#4 0b01#2 :: [.bootClk, .pinSet 0 false]) (State.launch Config.default) = .next u :=
  ⟨_, _, rfl, rfl, rfl⟩

/-- V4: the primitives from `led = 0b01`, and R154's clear only when `flash` stops. -/
theorem test_ledWrites :
    LedWrite.apply (.xor 0b11#2) 0b01#2 = 0b10#2 ∧ LedWrite.apply (.clr 0b11#2) 0b01#2 = 0b00#2 ∧
      ledWriteOf .svcBtn4 (atSvc .b4 0b0111#4) = none ∧
      ledWriteOf .svcBtn4 { atSvc .b4 0b0111#4 with flash := true } = some (.clr 0b11#2) := by decide

end Sys2Proof.Tests
end

section
/-!
PROOFS. What the operations write. The shared updates are reduced to the single-field updates of Laws/State, and `effect`
says for every operation, its guard aside, which updates it makes (R100 to R130, R152 to R154, R170 to R178, R230 to R236).
-/

namespace Sys2Proof.Machine

variable {s t : State} {i : Instr}

section Updates
variable (s : State)

@[simp] theorem State.emit_eq (e : Event) : s.emit e = s.setEvents (s.events ++ [e]) := rfl
@[simp] theorem State.ledXor_eq (m : Leds) :
    s.ledXor m = (s.setLed (s.led ^^^ m)).emit (.led (s.led ^^^ m)) := rfl
@[simp] theorem State.ledClr_eq (m : Leds) :
    s.ledClr m = (s.setLed (s.led &&& ~~~m)).emit (.led (s.led &&& ~~~m)) := rfl
@[simp] theorem State.invertPlay_eq : s.invertPlay = (s.setPlay (!s.play)).emit (.mode (!s.play) s.flash) := rfl
@[simp] theorem State.invertFlash_eq : s.invertFlash = (s.setFlash (!s.flash)).emit (.mode s.play (!s.flash)) := rfl
@[simp] theorem State.clearPend_eq (m : Pins) : s.clearPend m = s.setPend (s.pend &&& ~~~m) := rfl
@[simp] theorem State.raisePend_eq (q : Pins) : s.raisePend q = s.setPend (s.pend ||| q) := rfl
@[simp] theorem State.leaveService_eq : s.leaveService = s.setSvc .idle := rfl
@[simp] theorem State.enterService_eq : s.enterService = (s.setSeen (some (s.pend &&& s.ie))).setSvc .clr := rfl

/-- The pending flags after pin `n` was driven to `v` (R101). -/
def State.latchedPend (s : State) (n : Pin) (v : Bool) : Pins :=
  if armedEdge (pinBit s.sense n) (pinBit s.lvl n) v then setPinBit s.pend n true else s.pend

/-- PIN_SET writes the level and the latched flag; without a change of the level there is no edge to latch. -/
@[simp] theorem State.drivePin_eq (n : Pin) (v : Bool) :
    s.drivePin n v = (s.setLvl (setPinBit s.lvl n v)).setPend (s.latchedPend n v) := by
  cases hl : pinBit s.lvl n <;> cases v <;> cases hs : pinBit s.sense n <;>
    simp [State.drivePin, State.edgeLatch, State.latchedPend, armedEdge, hl, hs] <;> rfl

/-- Button 4 inverts `flash`; where it stops, both LEDs go off and their event follows the mode's (R128). -/
@[simp] theorem State.toggleFlash_eq :
    s.toggleFlash = ((s.setFlash (!s.flash)).setLed (if s.flash then 0b00#2 else s.led)).setEvents
      (s.events ++ .mode s.play (!s.flash) :: if s.flash then [.led 0b00#2] else []) := by
  cases hf : s.flash with
  | true => simp [State.toggleFlash_of_flash hf, hf]; rfl
  | false => simp [State.toggleFlash_of_not_flash hf, hf]; rfl

end Updates

/-- The snapshot is taken and shows button `n + 1` released (R125 to R128). -/
def State.released (s : State) (n : Pin) : Bool := s.snap.any fun v => pinBit v n

theorem State.released_of_snap {v : Pins} (h : s.snap = some v) (n : Pin) : s.released n = pinBit v n := by
  simp [State.released, h]

/-- The updates an operation makes where its guard holds. -/
def effect (i : Instr) (s : State) : State :=
  match i with
  | .reset r l =>
    { cfg := s.cfg, started := true, trace := s.trace, lvl := s.cfg.level0, swcfg := false, sense := 0b1111#4,
      pend := r, ie := 0b0000#4, gie := false, play := false, flash := false, led := l, ledOe := false,
      svc := .idle, seen := none, snap := none, lpc := .bootClk, tone := none, events := [] }
  | .bootClk => s.setLpc .bootSw
  | .bootSwCfg => (((s.setIe 0b1111#4).setSense 0b1111#4).setSwcfg true).setLpc .bootLed
  | .bootLedCfg => (s.setLedOe true).setLpc .bootBuz
  | .bootBuz => s.setLpc .bootGie
  | .bootGie => (s.setGie true).setLpc .top
  | .pinSet n v => s.drivePin n v
  | .svcEnter => s.enterService
  | .svcClear m => (s.clearPend m).setSvc .snap
  | .svcSnap => (s.setSnap (some s.lvl)).setSvc .rearm
  | .svcRearm q => ((s.setSense (s.snap.getD s.sense)).raisePend q).setSvc .b1
  | .svcBtn1 => (if s.released 0 then s else s.invertPlay).setSvc .b2
  | .svcBtn2 => (if s.released 1 then s else s.ledXor 0b10#2).setSvc .b3
  | .svcBtn3 => (if s.released 2 then s else s.ledXor 0b01#2).setSvc .b4
  | .svcBtn4 => (if s.released 3 then s else s.toggleFlash).setSvc .exit
  | .svcExit => s.leaveService
  | .loopSetPeriod p => ((s.setTone (some p)).emit (.tone p)).setLpc ((setPeriodNext s.lpc p).getD s.lpc)
  | .loopReadPlay => (s.emit (.readPlay s.play)).setLpc (readPlayNext s.play)
  | .loopReadFlash => (s.emit (.readFlash s.flash)).setLpc (readFlashNext s.cfg.flashToggleForm s.flash)
  | .loopFlashTgl m => (s.ledXor m).setLpc ((flashTglNext s.lpc m).getD s.lpc)
  | .loopDelay => s.setLpc ((delayNext s.lpc).getD s.lpc)

/-- An operation that answers a next state has made its updates and no other. -/
theorem eq_effect_of_exec (h : exec i s = .next t) : t = effect i s := by
  cases i with
  | reset r l => exact (exec_reset_next_iff.mp h).2
  | bootClk => exact (exec_bootClk_next_iff.mp h).2.2.2
  | bootSwCfg => exact (exec_bootSwCfg_next_iff.mp h).2.2.2
  | bootLedCfg => exact (exec_bootLedCfg_next_iff.mp h).2.2.2
  | bootBuz => exact (exec_bootBuz_next_iff.mp h).2.2.2
  | bootGie => exact (exec_bootGie_next_iff.mp h).2.2.2
  | pinSet n v => exact (exec_pinSet_next_iff.mp h).2
  | svcEnter => exact (exec_svcEnter_next_iff.mp h).2.2
  | svcClear m => obtain ⟨-, -, v, -, -, rfl⟩ := exec_svcClear_next_iff.mp h; rfl
  | svcSnap => exact (exec_svcSnap_next_iff.mp h).2.2
  | svcRearm q => obtain ⟨-, -, v, hv, -, rfl⟩ := exec_svcRearm_next_iff.mp h; simp [effect, hv]
  | svcBtn1 => obtain ⟨-, -, v, hv, rfl⟩ := exec_svcBtn1_next_iff.mp h; simp [effect, State.released_of_snap hv]
  | svcBtn2 => obtain ⟨-, -, v, hv, rfl⟩ := exec_svcBtn2_next_iff.mp h; simp [effect, State.released_of_snap hv]
  | svcBtn3 => obtain ⟨-, -, v, hv, rfl⟩ := exec_svcBtn3_next_iff.mp h; simp [effect, State.released_of_snap hv]
  | svcBtn4 => obtain ⟨-, -, v, hv, rfl⟩ := exec_svcBtn4_next_iff.mp h; simp [effect, State.released_of_snap hv]
  | svcExit => exact (exec_svcExit_next_iff.mp h).2.2
  | loopSetPeriod p => obtain ⟨-, -, q, hq, rfl⟩ := exec_loopSetPeriod_next_iff.mp h; simp [effect, hq]
  | loopReadPlay => exact (exec_loopReadPlay_next_iff.mp h).2.2.2
  | loopReadFlash => exact (exec_loopReadFlash_next_iff.mp h).2.2.2
  | loopFlashTgl m => obtain ⟨-, -, q, hq, rfl⟩ := exec_loopFlashTgl_next_iff.mp h; simp [effect, hq]
  | loopDelay => obtain ⟨-, -, q, hq, rfl⟩ := exec_loopDelay_next_iff.mp h; simp [effect, hq]

/-- After RESET no operation is RESET (R231). -/
theorem ne_reset_of_exec (hs : s.started = true) (h : exec i s = .next t) (r : Pins) (l : Leds) : i ≠ .reset r l := by
  rintro rfl
  simp [exec_reset_next_iff, hs] at h

/-- The one value of `svc` a sequencer or loop operation runs at; the switches' operations run at each (R40, R203). -/
def runsAt : Instr → Option SvcPos
  | .reset _ _ | .pinSet _ _ => none
  | .svcClear _ => some .clr
  | .svcSnap => some .snap
  | .svcRearm _ => some .rearm
  | .svcBtn1 => some .b1
  | .svcBtn2 => some .b2
  | .svcBtn3 => some .b3
  | .svcBtn4 => some .b4
  | .svcExit => some .exit
  | _ => some .idle

theorem svc_eq_of_exec {p : SvcPos} (h : exec i s = .next t) (hp : runsAt i = some p) : s.svc = p := by
  cases i <;> cases hp
  case svcEnter => exact (State.req_iff.mp (exec_svcEnter_next_iff.mp h).2.1).2.2
  case svcClear => exact (exec_svcClear_next_iff.mp h).2.1
  case svcSnap => exact (exec_svcSnap_next_iff.mp h).2.1
  case svcRearm => exact (exec_svcRearm_next_iff.mp h).2.1
  case svcBtn1 => exact (exec_svcBtn1_next_iff.mp h).2.1
  case svcBtn2 => exact (exec_svcBtn2_next_iff.mp h).2.1
  case svcBtn3 => exact (exec_svcBtn3_next_iff.mp h).2.1
  case svcBtn4 => exact (exec_svcBtn4_next_iff.mp h).2.1
  case svcExit => exact (exec_svcExit_next_iff.mp h).2.1
  all_goals exact svc_idle_of_loop_enabled ⟨_, rfl, _, h⟩

/-- The next value of `svc` (R40): the sequencer's operations lead to a fixed one, and no other moves it but RESET. -/
def svcAfter (i : Instr) (p : SvcPos) : SvcPos :=
  match i with
  | .reset _ _ => .idle
  | .svcEnter => .clr
  | .svcClear _ => .snap
  | .svcSnap => .rearm
  | .svcRearm _ => .b1
  | .svcBtn1 => .b2
  | .svcBtn2 => .b3
  | .svcBtn3 => .b4
  | .svcBtn4 => .exit
  | .svcExit => .idle
  | _ => p

@[simp] theorem effect_svc (i : Instr) (s : State) : (effect i s).svc = svcAfter i s.svc := by
  cases i <;> simp [effect, svcAfter]

@[simp] theorem effect_started (i : Instr) (s : State) (hs : s.started = true) : (effect i s).started = true := by
  cases i <;> simp [effect, apply_ite State.started, hs]

/-- The levels and the enables follow the input signals (R53). -/
theorem effect_follows_inputs (s : State) (hi : ∀ r l, i ≠ .reset r l) :
    (effect i s).lvl = (inputsOf i s).swIn ∧
    (effect i s).swcfg = (s.swcfg || (inputsOf i s).cfgSw) ∧
    (effect i s).ledOe = (s.ledOe || (inputsOf i s).cfgLed) ∧
    (effect i s).gie = (s.gie || (inputsOf i s).gieSet) := by
  cases i with
  | reset r l => exact absurd rfl (hi r l)
  | _ =>
    simp [effect, inputsOf, Inputs.quiet, apply_ite State.lvl, apply_ite State.swcfg, apply_ite State.ledOe,
      apply_ite State.gie]

/-- The events an operation after RESET appends (R49). -/
def emits (i : Instr) (s : State) : List Event :=
  match i with
  | .svcBtn1 => if s.released 0 then [] else [.mode (!s.play) s.flash]
  | .svcBtn2 => if s.released 1 then [] else [.led (s.led ^^^ 0b10#2)]
  | .svcBtn3 => if s.released 2 then [] else [.led (s.led ^^^ 0b01#2)]
  | .svcBtn4 => if s.released 3 then [] else .mode s.play (!s.flash) :: if s.flash then [.led 0b00#2] else []
  | .loopSetPeriod p => [.tone p]
  | .loopReadPlay => [.readPlay s.play]
  | .loopReadFlash => [.readFlash s.flash]
  | .loopFlashTgl m => [.led (s.led ^^^ m)]
  | _ => []

theorem effect_events (s : State) (hi : ∀ r l, i ≠ .reset r l) : (effect i s).events = s.events ++ emits i s := by
  cases i with
  | reset r l => exact absurd rfl (hi r l)
  | svcBtn1 | svcBtn2 | svcBtn3 | svcBtn4 => simp only [effect, emits]; split <;> simp
  | _ => simp [effect, emits]

/-- `led` holds the value of the last LED event, or what it held (R49, R152, R153). -/
theorem effect_led (s : State) (hi : ∀ r l, i ≠ .reset r l) :
    (effect i s).led = (lastLedEvent (emits i s)).getD s.led := by
  cases i with
  | reset r l => exact absurd rfl (hi r l)
  | svcBtn1 | svcBtn2 | svcBtn3 => simp only [effect, emits]; split <;> simp [lastLedEvent]
  | svcBtn4 => simp only [effect, emits]; split <;> cases hf : s.flash <;> simp [hf, lastLedEvent]
  | _ => simp [effect, emits, lastLedEvent]

/-- A mode flag changes only with an event of the new mode (R49, R125, R128). -/
theorem effect_mode (s : State) (hi : ∀ r l, i ≠ .reset r l) :
    (effect i s).play = s.play ∧ (effect i s).flash = s.flash ∨
      .mode (effect i s).play (effect i s).flash ∈ emits i s := by
  cases i with
  | reset r l => exact absurd rfl (hi r l)
  | svcBtn1 | svcBtn4 => simp only [effect, emits]; split <;> simp
  | _ => simp [effect, apply_ite State.play, apply_ite State.flash]

/-- `tone` changes only with its event (R49, R173). -/
theorem effect_tone (s : State) (hi : ∀ r l, i ≠ .reset r l) :
    (effect i s).tone = s.tone ∨ ∃ p, (effect i s).tone = some p ∧ .tone p ∈ emits i s := by
  cases i with
  | reset r l => exact absurd rfl (hi r l)
  | _ => simp [effect, emits, apply_ite State.tone]

/-- What the last LED event carries was emitted. -/
theorem led_mem_of_lastLedEvent {es : List Event} {v : Leds} (h : lastLedEvent es = some v) : .led v ∈ es := by
  induction es with
  | nil => cases h
  | cons e es ih =>
    cases e with
    | led w =>
      cases hl : lastLedEvent es with
      | none => simp_all [lastLedEvent]
      | some u => simp_all [lastLedEvent]
    | _ => exact List.mem_cons_of_mem _ (ih h)

/-- The last LED event of two lists joined. -/
theorem lastLedEvent_append (es fs : List Event) :
    lastLedEvent (es ++ fs) = (lastLedEvent fs).or (lastLedEvent es) := by
  induction es with
  | nil => simp [lastLedEvent]
  | cons e es ih => cases e <;> simp [lastLedEvent, ih]

/-- With the sequencer idle, LED writes come from the loop's toggle alone (R150, R154). -/
theorem led_eq_of_exec_idle (hs : s.started = true) (hp : s.svc = .idle) (h : exec i s = .next t) :
    t.led = s.led ^^^ (inputsOf i s).loopTgl := by
  have hat : ∀ p, runsAt i = some p → .idle = p := fun p hr => hp.symm.trans (svc_eq_of_exec h hr)
  rw [eq_effect_of_exec h, effect_led s (ne_reset_of_exec hs h)]
  cases i <;> simp [runsAt, emits, lastLedEvent, inputsOf, Inputs.quiet] at hat ⊢

/-- Writing the bit that is there. -/
theorem setPinBit_pinBit_self (v : Pins) (n : Pin) : setPinBit v n (pinBit v n) = v := by
  revert v n
  decide

/-- `sw_in` departs from the levels of the state only under a PIN_SET that changes its pin (R53, R100). -/
theorem eq_pinSet_of_swIn_ne (i : Instr) (s : State) (h : (inputsOf i s).swIn ≠ s.lvl) :
    ∃ n, i = .pinSet n (!pinBit s.lvl n) := by
  by_cases hp : ∃ n v, i = .pinSet n v
  · obtain ⟨n, v, rfl⟩ := hp
    have hv : v ≠ pinBit s.lvl n := by rintro rfl; exact h (setPinBit_pinBit_self s.lvl n)
    exact ⟨n, by rw [Bool.eq_not.mpr hv]⟩
  · exact absurd (inputsOf_swIn_of_not_pinSet fun n v hi => hp ⟨n, v, hi⟩) h

end Sys2Proof.Machine
end

section
/-!
PROOFS. The invariant of reachable states (R57, R58, R237): which clauses of `Inv` each single-field update puts at stake,
and from that, that every operation and every step keeps it.
-/

namespace Sys2Proof.Machine

variable {s t : State}

theorem Inv.gie_of_service (h : Inv s) (hp : s.svc ≠ .idle) : s.gie = true := h.svc_needs_gie.resolve_left hp

theorem Inv.gie_of_not_boot (h : Inv s) (hp : s.lpc.isBoot = false) : s.gie = true := by
  simpa [hp] using h.boot_iff_no_gie

theorem Inv.no_snap_of_boot (h : Inv s) (hp : s.lpc.isBoot = true) : s.snap = none :=
  (h.no_service_in_boot (h.boot_iff_no_gie.mp hp)).1

/-! Updates no clause of the invariant speaks of. -/

theorem Inv.setTrace (h : Inv s) (ws : List Word) : Inv (s.setTrace ws) := { h with }
theorem Inv.setEvents (h : Inv s) (es : List Event) : Inv (s.setEvents es) := { h with }
theorem Inv.emit (h : Inv s) (e : Event) : Inv (s.emit e) := h.setEvents _
theorem Inv.setPend (h : Inv s) (p : Pins) : Inv (s.setPend p) := { h with }
theorem Inv.setLed (h : Inv s) (l : Leds) : Inv (s.setLed l) := { h with }
theorem Inv.ledXor (h : Inv s) (m : Leds) : Inv (s.ledXor m) := (h.setLed _).emit _
theorem Inv.ledClr (h : Inv s) (m : Leds) : Inv (s.ledClr m) := (h.setLed _).emit _

/-! Updates that need one fact each. -/

theorem Inv.setLvl (h : Inv s) (hs : s.started = true) (l : Pins) : Inv (s.setLvl l) :=
  { h with launch_levels := fun hn => by simp [hs] at hn }

theorem Inv.drivePin (h : Inv s) (hs : s.started = true) (n : Pin) (v : Bool) : Inv (s.drivePin n v) := by
  obtain ⟨l, p, hlp⟩ := s.drivePin_eq_set n v
  rw [hlp]
  exact (h.setLvl hs l).setPend p

theorem Inv.invertPlay (h : Inv s) (hg : s.gie = true) : Inv s.invertPlay :=
  { h with no_service_in_boot := fun hn => by simp [hg] at hn }

theorem Inv.invertFlash (h : Inv s) (hg : s.gie = true) : Inv s.invertFlash :=
  { h with no_service_in_boot := fun hn => by simp [hg] at hn }

theorem Inv.toggleFlash (h : Inv s) (hg : s.gie = true) : Inv s.toggleFlash := by
  cases hf : s.flash with
  | true => simpa only [State.toggleFlash_of_flash hf] using (h.invertFlash hg).ledClr _
  | false => simpa only [State.toggleFlash_of_not_flash hf] using h.invertFlash hg

theorem Inv.setTone (h : Inv s) (hp : s.lpc.isBoot = false) (hd : ∀ k, s.lpc ≠ .swpDly k) {p : Period}
    (hv : p = Config.silence ∨ p ∈ sweepPeriods) : Inv (s.setTone (some p)) :=
  { h with
    no_service_in_boot := fun hn => by simp [h.gie_of_not_boot hp] at hn
    tone_from_loop := by simpa using hv
    tone_in_delay := fun k hk => absurd hk (hd k) }

/-- The sequencer moves within a service or out of it; only entry leads to CLR, and only SVC_SNAP to REARM. -/
theorem Inv.setSvc (h : Inv s) {p : SvcPos} (hg : s.gie = true) (hsnap : 3 ≤ p.code.toNat → s.snap.isSome = true)
    (harm : ∀ v, s.snap = some v → s.sense = v) (hclr : p ≠ .clr := by decide) : Inv (s.setSvc p) :=
  { h with
    svc_needs_gie := .inr hg
    seen_at_clr := fun hp => absurd hp hclr
    snap_taken := hsnap
    armed_by_snap := fun _ => harm }

/-- The loop moves to a position whose clauses hold. -/
theorem Inv.setLpc (h : Inv s) {q : LoopPos} (hboot : q.isBoot = true ↔ s.gie = false)
    (hsw : 2 ≤ q.code → s.swcfg = true ∧ s.ie = 0b1111#4) (hled : 3 ≤ q.code → s.ledOe = true)
    (hsplit : (q = .ftglA ∨ ∃ fm, q = .ftglB fm) → s.cfg.flashToggleForm = .split)
    (hatomic : q = .ftgl → s.cfg.flashToggleForm = .atomic)
    (hdly : ∀ k, q = .swpDly k → s.tone = some (per k)) : Inv (s.setLpc q) :=
  { h with
    boot_iff_no_gie := hboot
    switches_configured := hsw
    leds_configured := hled
    split_positions := hsplit
    atomic_position := hatomic
    tone_in_delay := hdly }

/-- A move from one boot phase to another needs the configuration the new phase comes after. -/
theorem Inv.moveBoot (h : Inv s) {q : LoopPos} (hp : s.lpc.isBoot = true)
    (hsw : 2 ≤ q.code → s.swcfg = true ∧ s.ie = 0b1111#4) (hled : 3 ≤ q.code → s.ledOe = true)
    (hq : q.isBoot = true := by rfl) : Inv (s.setLpc q) := by
  refine h.setLpc (by simp [hq, h.boot_iff_no_gie.mp hp]) hsw hled ?_ ?_ ?_
  · rintro (rfl | ⟨fm, rfl⟩) <;> cases hq
  · rintro rfl; cases hq
  · rintro k rfl; cases hq

/-- After boot the configuration stands, so a move to another position after boot needs
only the clauses on the toggle and the delay positions, which are empty elsewhere. -/
theorem Inv.moveLoop (h : Inv s) {q : LoopPos} (hp : s.lpc.isBoot = false) (hq : q.isBoot = false := by rfl)
    (hsplit : (q = .ftglA ∨ ∃ fm, q = .ftglB fm) → s.cfg.flashToggleForm = .split := by simp)
    (hatomic : q = .ftgl → s.cfg.flashToggleForm = .atomic := by simp)
    (hdly : ∀ k, q = .swpDly k → s.tone = some (per k) := by simp) : Inv (s.setLpc q) := by
  have hc : 4 < s.lpc.code := by simpa [LoopPos.isBoot] using hp
  exact h.setLpc (by simp [hq, h.gie_of_not_boot hp]) (fun _ => h.switches_configured (by omega))
    (fun _ => h.leds_configured (by omega)) hsplit hatomic hdly

/-! The operations of each agent. -/

/-- RESET writes every field the invariant speaks of (R230). -/
theorem Inv.of_exec_reset {r : Pins} {l : Leds} (he : exec (.reset r l) s = .next t) : Inv t := by
  obtain ⟨-, rfl⟩ := exec_reset_next_iff.mp he
  constructor <;> simp [LoopPos.isBoot, LoopPos.code, SvcPos.code]

theorem Inv.of_exec_env {i : Instr} (h : Inv s) (ha : i.agent = .env) (he : exec i s = .next t) : Inv t := by
  cases i <;> simp only [Instr.agent, reduceCtorEq] at ha
  case reset => exact .of_exec_reset he
  case pinSet n v =>
    obtain ⟨hs, rfl⟩ := exec_pinSet_next_iff.mp he
    exact h.drivePin hs n v

/-- Once the snapshot is what the pins are armed by, the sequencer moves on or out without touching a clause. -/
theorem Inv.setSvc_of_snap (h : Inv s) {p : SvcPos} (hp : s.svc ≠ .idle ∧ s.svc ≠ .rearm)
    (hsnap : s.snap.isSome = true) (hclr : p ≠ .clr := by decide) : Inv (s.setSvc p) :=
  h.setSvc (h.gie_of_service hp.1) (fun _ => hsnap) (h.armed_by_snap hp.2) hclr

/-- A button step keeps the invariant when its effect does and does not look at the sequencer's position. -/
theorem Inv.of_buttonStep {p after : SvcPos} {n : Pin} {effect : State → State} (h : Inv s)
    (he : buttonStep p n effect after s = .next t) (heff : ∀ u, Inv u → u.gie = true → Inv (effect u))
    (hmove : effect (s.setSvc after) = (effect s).setSvc after)
    (hp : p ≠ .idle ∧ p ≠ .rearm := by decide) (hclr : after ≠ .clr := by decide) : Inv t := by
  obtain ⟨-, rfl, v, hv, rfl⟩ := buttonStep_next_iff.mp he
  have hu : Inv (s.setSvc after) := h.setSvc_of_snap hp (by simp [hv]) hclr
  split
  · exact hu
  · exact hmove ▸ heff _ hu (h.gie_of_service hp.1)

theorem State.toggleFlash_setSvc (s : State) (p : SvcPos) : (s.setSvc p).toggleFlash = s.toggleFlash.setSvc p := by
  rw [State.toggleFlash_eq, State.toggleFlash_eq]
  rfl

theorem Inv.of_exec_seq {i : Instr} (h : Inv s) (ha : i.agent = .seq) (he : exec i s = .next t) : Inv t := by
  cases i <;> simp only [Instr.agent, reduceCtorEq] at ha
  case svcEnter =>
    obtain ⟨-, hr, rfl⟩ := exec_svcEnter_next_iff.mp he
    obtain ⟨hg, hpend, hp⟩ := State.req_iff.mp hr
    exact { h with
      svc_needs_gie := .inr hg
      seen_at_clr := fun _ => ⟨_, rfl, hpend⟩
      snap_taken := fun hc => absurd hc (by simp [SvcPos.code])
      armed_by_snap := fun _ => h.armed_by_snap (by simp [hp])
      no_service_in_boot := fun hn => by simp [hg] at hn }
  case svcClear m =>
    obtain ⟨-, hp, v, -, -, rfl⟩ := exec_svcClear_next_iff.mp he
    exact (h.setPend _).setSvc (h.gie_of_service (by simp [hp])) (by simp [SvcPos.code])
      (h.armed_by_snap (by simp [hp]))
  case svcSnap =>
    obtain ⟨-, hp, rfl⟩ := exec_svcSnap_next_iff.mp he
    have hg := h.gie_of_service (by simp [hp])
    exact { h with
      svc_needs_gie := .inr hg
      seen_at_clr := fun hc => by simp at hc
      snap_taken := fun _ => rfl
      armed_by_snap := fun hn => absurd rfl hn
      no_service_in_boot := fun hn => by simp [hg] at hn }
  case svcRearm q =>
    obtain ⟨-, hp, v, hv, -, rfl⟩ := exec_svcRearm_next_iff.mp he
    have hg := h.gie_of_service (by simp [hp])
    exact { h with
      svc_needs_gie := .inr hg
      seen_at_clr := fun hc => by simp at hc
      snap_taken := fun _ => by simp [hv]
      armed_by_snap := fun _ w hw => by simpa [hv] using hw }
  case svcBtn1 => exact h.of_buttonStep he (fun _ hu hg => hu.invertPlay hg) rfl
  case svcBtn2 => exact h.of_buttonStep (effect := fun u => u.ledXor 0b10#2) he (fun _ hu _ => hu.ledXor _) rfl
  case svcBtn3 => exact h.of_buttonStep (effect := fun u => u.ledXor 0b01#2) he (fun _ hu _ => hu.ledXor _) rfl
  case svcBtn4 => exact h.of_buttonStep he (fun _ hu hg => hu.toggleFlash hg) (s.toggleFlash_setSvc _)
  case svcExit =>
    obtain ⟨-, hp, rfl⟩ := exec_svcExit_next_iff.mp he
    exact h.setSvc_of_snap (by simp [hp]) (h.snap_taken (by simp [hp, SvcPos.code]))

/-- The boot operations: each configures what the phases after it need (R237). -/
theorem Inv.of_exec_boot {i : Instr} (h : Inv s) (hi : i ∈ [.bootClk, .bootSwCfg, .bootLedCfg, .bootBuz, .bootGie])
    (he : exec i s = .next t) : Inv t := by
  simp only [List.mem_cons, List.not_mem_nil, or_false] at hi
  obtain rfl | rfl | rfl | rfl | rfl := hi
  · obtain ⟨-, -, hp, rfl⟩ := exec_bootClk_next_iff.mp he
    exact h.moveBoot (by rw [hp]; rfl) (by simp [LoopPos.code]) (by simp [LoopPos.code])
  · obtain ⟨-, -, hp, rfl⟩ := exec_bootSwCfg_next_iff.mp he
    have hn : s.snap = none := h.no_snap_of_boot (by rw [hp]; rfl)
    have hu : Inv (((s.setIe 0b1111#4).setSense 0b1111#4).setSwcfg true) :=
      { h with
        armed_by_snap := fun _ v hv => by simp [hn] at hv
        switches_configured := fun _ => ⟨rfl, rfl⟩ }
    exact hu.moveBoot (congrArg LoopPos.isBoot hp) (fun _ => ⟨rfl, rfl⟩) (by simp [LoopPos.code])
  · obtain ⟨-, -, hp, rfl⟩ := exec_bootLedCfg_next_iff.mp he
    have hu : Inv (s.setLedOe true) := { h with leds_configured := fun _ => rfl }
    exact hu.moveBoot (congrArg LoopPos.isBoot hp) (fun _ => h.switches_configured (by simp [hp, LoopPos.code]))
      (fun _ => rfl)
  · obtain ⟨-, -, hp, rfl⟩ := exec_bootBuz_next_iff.mp he
    exact h.moveBoot (congrArg LoopPos.isBoot hp) (fun _ => h.switches_configured (by simp [hp, LoopPos.code]))
      (fun _ => h.leds_configured (by simp [hp, LoopPos.code]))
  · obtain ⟨-, -, hp, rfl⟩ := exec_bootGie_next_iff.mp he
    exact { h with
      svc_needs_gie := .inr rfl
      boot_iff_no_gie := by simp [LoopPos.isBoot, LoopPos.code]
      no_service_in_boot := fun hn => by simp at hn
      switches_configured := fun _ => h.switches_configured (by simp [hp, LoopPos.code])
      leds_configured := fun _ => h.leds_configured (by simp [hp, LoopPos.code])
      split_positions := by simp
      atomic_position := by simp
      tone_in_delay := by simp }

/-- Where LOOP_READ_FLASH leads (R176, R177). -/
theorem readFlashNext_cases (form : FlashToggleForm) (flash : Bool) :
    readFlashNext form flash = .top ∨ (form = .split ∧ readFlashNext form flash = .ftglA) ∨
      (form = .atomic ∧ readFlashNext form flash = .ftgl) := by
  cases flash <;> cases form <;> simp [readFlashNext]

theorem per_mem_sweepPeriods (k : Fin 32) : per k ∈ sweepPeriods := List.mem_map_of_mem (List.mem_finRange k)

/-- The loop's operations after boot: each moves from one position of its cycle to another. -/
theorem Inv.of_exec_cycle {i : Instr} (h : Inv s) (ha : i.agent = .loop)
    (hi : i ∉ [.bootClk, .bootSwCfg, .bootLedCfg, .bootBuz, .bootGie]) (he : exec i s = .next t) : Inv t := by
  cases i <;> simp [Instr.agent] at ha hi
  case loopSetPeriod p =>
    obtain ⟨-, -, q, hq, rfl⟩ := exec_loopSetPeriod_next_iff.mp he
    obtain ⟨k, hp, rfl, rfl⟩ | ⟨hp, rfl, rfl⟩ := setPeriodNext_eq_some_iff.mp hq
    · refine Inv.moveLoop ((h.setTone ?_ ?_ (.inr (per_mem_sweepPeriods k))).emit _) ?_ (hdly := ?_)
      all_goals simp [hp, LoopPos.isBoot, LoopPos.code]
    · refine Inv.moveLoop ((h.setTone ?_ ?_ (.inl rfl)).emit _) ?_
      all_goals simp [hp, LoopPos.isBoot, LoopPos.code]
  case loopReadPlay =>
    obtain ⟨-, -, hp, rfl⟩ := exec_loopReadPlay_next_iff.mp he
    have hb : (s.emit (.readPlay s.play)).lpc.isBoot = false := congrArg LoopPos.isBoot hp
    cases s.play with
    | true => exact (h.emit _).moveLoop (q := .swpSet 0) hb
    | false => exact (h.emit _).moveLoop (q := .sil) hb
  case loopReadFlash =>
    obtain ⟨-, -, hp, rfl⟩ := exec_loopReadFlash_next_iff.mp he
    have hb : (s.emit (.readFlash s.flash)).lpc.isBoot = false := congrArg LoopPos.isBoot hp
    obtain hq | ⟨hform, hq⟩ | ⟨hform, hq⟩ := readFlashNext_cases s.cfg.flashToggleForm s.flash <;> rw [hq]
    · exact (h.emit _).moveLoop hb
    · exact (h.emit _).moveLoop hb (hsplit := fun _ => hform)
    · exact (h.emit _).moveLoop hb (hatomic := fun _ => hform)
  case loopFlashTgl m =>
    obtain ⟨-, -, q, hq, rfl⟩ := exec_loopFlashTgl_next_iff.mp he
    obtain ⟨fm, hp, -, rfl⟩ | ⟨fm, hp, -, rfl⟩ | ⟨hp, -, rfl⟩ := flashTglNext_eq_some_iff.mp hq
    · exact (h.ledXor m).moveLoop (congrArg LoopPos.isBoot hp) (hsplit := fun _ => h.split_positions (.inl hp))
    · exact (h.ledXor m).moveLoop (congrArg LoopPos.isBoot hp)
    · exact (h.ledXor m).moveLoop (congrArg LoopPos.isBoot hp)
  case loopDelay =>
    obtain ⟨-, -, q, hq, rfl⟩ := exec_loopDelay_next_iff.mp he
    obtain ⟨k, hp, rfl⟩ | ⟨hp, rfl⟩ := delayNext_eq_some_iff.mp hq
    · have hb : s.lpc.isBoot = false := congrArg LoopPos.isBoot hp
      split
      · exact h.moveLoop hb
      · exact h.moveLoop hb
    · exact h.moveLoop (congrArg LoopPos.isBoot hp)

/-- Every operation keeps the invariant. -/
theorem Inv.of_exec {i : Instr} (h : Inv s) (he : exec i s = .next t) : Inv t := by
  cases ha : i.agent with
  | env => exact h.of_exec_env ha he
  | seq => exact h.of_exec_seq ha he
  | loop =>
    by_cases hi : i ∈ [.bootClk, .bootSwCfg, .bootLedCfg, .bootBuz, .bootGie]
    · exact h.of_exec_boot hi he
    · exact h.of_exec_cycle ha hi he

end Sys2Proof.Machine
end

section
/-!
PROOFS. Where the machine faults (R57, R207): only a read of `seen` at CLR or of `snap` from REARM to B4 can, and only while
the field is `unset`.
-/

namespace Sys2Proof.Machine

variable {s : State} {i : Instr} {f : Fault}

/-- Reading a field faults exactly when it is `unset` or what follows faults (R57). -/
theorem readSet_fault_iff {field : Option Pins} {k : Pins → Result} :
    readSet field k = .fault f ↔ field = none ∨ ∃ v, field = some v ∧ k v = .fault f := by
  cases f
  cases field <;> simp

theorem exec_svcClear_fault_iff {m : Pins} :
    exec (.svcClear m) s = .fault f ↔ s.started = true ∧ s.svc = .clr ∧ s.seen = none := by
  simp [exec, execSvcClear, guarded_fault_iff, readSet_fault_iff, State.seqAt_iff, and_assoc]

theorem exec_svcRearm_fault_iff {q : Pins} :
    exec (.svcRearm q) s = .fault f ↔ s.started = true ∧ s.svc = .rearm ∧ s.snap = none := by
  simp [exec, execSvcRearm, guarded_fault_iff, readSet_fault_iff, State.seqAt_iff, and_assoc]

theorem buttonStep_fault_iff {p after : SvcPos} {n : Pin} {effect : State → State} :
    buttonStep p n effect after s = .fault f ↔ s.started = true ∧ s.svc = p ∧ s.snap = none := by
  simp [buttonStep, guarded_fault_iff, readSet_fault_iff, State.seqAt_iff, and_assoc]

theorem exec_svcBtn1_fault_iff : exec .svcBtn1 s = .fault f ↔ s.started = true ∧ s.svc = .b1 ∧ s.snap = none :=
  buttonStep_fault_iff

theorem exec_svcBtn2_fault_iff : exec .svcBtn2 s = .fault f ↔ s.started = true ∧ s.svc = .b2 ∧ s.snap = none :=
  buttonStep_fault_iff (effect := fun t => t.ledXor 0b10#2)

theorem exec_svcBtn3_fault_iff : exec .svcBtn3 s = .fault f ↔ s.started = true ∧ s.svc = .b3 ∧ s.snap = none :=
  buttonStep_fault_iff (effect := fun t => t.ledXor 0b01#2)

theorem exec_svcBtn4_fault_iff : exec .svcBtn4 s = .fault f ↔ s.started = true ∧ s.svc = .b4 ∧ s.snap = none :=
  buttonStep_fault_iff

/-- An operation that faults reads a field that its position needs and that is `unset`. -/
theorem unset_of_exec_fault (h : exec i s = .fault f) :
    (s.svc = .clr ∧ s.seen = none) ∨ (3 ≤ s.svc.code.toNat ∧ s.snap = none) := by
  have hsnap {p : SvcPos} (hp : 3 ≤ p.code.toNat) (hu : s.started = true ∧ s.svc = p ∧ s.snap = none) :
      (s.svc = .clr ∧ s.seen = none) ∨ (3 ≤ s.svc.code.toNat ∧ s.snap = none) :=
    .inr ⟨hu.2.1 ▸ hp, hu.2.2⟩
  cases i
  case svcClear => exact .inl (exec_svcClear_fault_iff.mp h).2
  case svcRearm => exact hsnap (by decide) (exec_svcRearm_fault_iff.mp h)
  case svcBtn1 => exact hsnap (by decide) (exec_svcBtn1_fault_iff.mp h)
  case svcBtn2 => exact hsnap (by decide) (exec_svcBtn2_fault_iff.mp h)
  case svcBtn3 => exact hsnap (by decide) (exec_svcBtn3_fault_iff.mp h)
  case svcBtn4 => exact hsnap (by decide) (exec_svcBtn4_fault_iff.mp h)
  all_goals
    exfalso
    simp [exec, execReset, execBootClk, execBootSwCfg, execBootLedCfg, execBootBuz, execBootGie, execPinSet, execSvcEnter,
      execSvcSnap, execSvcExit, execLoopSetPeriod, execLoopReadPlay, execLoopReadFlash, execLoopFlashTgl, execLoopDelay,
      guarded_fault_iff, advanceLoop_ne_fault] at h

/-- The invariant has both fields set where an operation reads them. -/
theorem Inv.exec_ne_fault (h : Inv s) : exec i s ≠ .fault f := by
  intro he
  obtain ⟨hp, hn⟩ | ⟨hp, hn⟩ := unset_of_exec_fault he
  · obtain ⟨m, hm, -⟩ := h.seen_at_clr hp
    simp [hn] at hm
  · simpa [hn] using h.snap_taken hp

end Sys2Proof.Machine
end

section
/-!
PROOFS. The statements on the state (10_state.md) settled from the facts above: the sequencer's order, the invariant, the
events, the faults and the interface signals.
-/

namespace Sys2Proof.Machine

variable {s t : State} {i : Instr}

/-- Settles O41: a step takes a word, of which the invariant says nothing, and performs its operation. -/
theorem invariantKeptByEveryStep : Obligations.InvariantKeptByEveryStep := by
  intro s t h hs
  obtain ⟨w, rest, i, -, -, he⟩ := step_next_iff.mp hs
  exact (h.setTrace rest).of_exec he

/-- Settles O42: the launch state meets each clause, and the reset state is what RESET leaves. -/
theorem invariantHoldsAtReset : Obligations.InvariantHoldsAtReset :=
  ⟨.of_exec_reset (s := State.launch Config.default) (r := 0b0000#4) (l := 0b00#2) rfl,
    fun _ => by constructor <;> simp [State.launch, LoopPos.isBoot, LoopPos.code, SvcPos.code]⟩

/-- Settles O43: no operation faults, and a step faults only where its operation does. -/
theorem unsetReadIsUnreachable : Obligations.UnsetReadIsUnreachable := by
  refine fun s h => ⟨fun i f => h.exec_ne_fault, fun f hf => ?_⟩
  obtain ⟨w, rest, i, -, -, he⟩ := step_fault_iff.mp hf
  exact (h.setTrace rest).exec_ne_fault he

/-- Settles O44: the invariant at EXIT has the snapshot taken and the pins armed by it, and SVC_EXIT writes neither. -/
theorem senseIsTheSnapshotAfterAService : Obligations.SenseIsTheSnapshotAfterAService := by
  intro s t h he
  obtain ⟨-, hp, rfl⟩ := exec_svcExit_next_iff.mp he
  obtain ⟨v, hv⟩ := Option.isSome_iff_exists.mp (h.snap_taken (by simp [hp, SvcPos.code]))
  simp [hv, h.armed_by_snap (by simp [hp]) v hv]

/-- Settles O25: each of the six operations faults exactly at its position with the field it reads unset. -/
theorem readingUnsetFaults : Obligations.ReadingUnsetFaults :=
  ⟨fun _ _ hs hp hn => exec_svcClear_fault_iff.mpr ⟨hs, hp, hn⟩,
    fun _ _ hs hp hn => exec_svcRearm_fault_iff.mpr ⟨hs, hp, hn⟩,
    fun _ hs hn =>
      ⟨fun hp => exec_svcBtn1_fault_iff.mpr ⟨hs, hp, hn⟩, fun hp => exec_svcBtn2_fault_iff.mpr ⟨hs, hp, hn⟩,
        fun hp => exec_svcBtn3_fault_iff.mpr ⟨hs, hp, hn⟩, fun hp => exec_svcBtn4_fault_iff.mpr ⟨hs, hp, hn⟩⟩⟩

/-- Settles O26: the guard gives the position an operation runs at, and its effect the next one. -/
theorem sequencerAdvancesInOrder : Obligations.SequencerAdvancesInOrder := by
  refine ⟨fun i s t ha h => ?_, fun i s t ha h => ?_, fun r l s t h => ?_, rfl⟩
  · have ht : t.svc = svcAfter i s.svc := by rw [eq_effect_of_exec h, effect_svc]
    cases i <;> simp only [Instr.agent, reduceCtorEq] at ha
    all_goals simp [ht, svc_eq_of_exec h rfl, svcAfter, mnemonicOf]
  · rw [eq_effect_of_exec h, effect_svc]
    cases i <;> simp [Instr.agent, svcAfter] at ha ⊢
  · rw [eq_effect_of_exec h, effect_svc, svcAfter]

/-- Settles O36: the events are those of `emits`, and every change of a field shows in them. -/
theorem eventsAreAppendedForEveryWrite : Obligations.EventsAreAppendedForEveryWrite := by
  intro i s t hs h
  have hi := ne_reset_of_exec hs h
  obtain rfl := eq_effect_of_exec h
  refine ⟨emits i s, effect_events s hi, fun hl => led_mem_of_lastLedEvent ?_, (effect_mode s hi).resolve_left ∘ ?_,
    (effect_tone s hi).resolve_left, fun v hv => ⟨?_, ?_, ?_, ?_⟩, ?_, ?_, ?_, ?_, ?_⟩
  · rw [effect_led s hi] at hl ⊢
    cases hm : lastLedEvent (emits i s) <;> simp [hm] at hl ⊢
  · rintro (hp | hf) ⟨hp', hf'⟩ <;> contradiction
  · rintro rfl; simp only [emits, effect, State.released_of_snap hv]; split <;> simp
  · rintro rfl; simp only [emits, effect, State.released_of_snap hv]; split <;> simp
  · rintro rfl; simp only [emits, effect, State.released_of_snap hv]; split <;> simp
  · rintro rfl; simp only [emits, effect, State.released_of_snap hv]; split <;> cases hf : s.flash <;> simp [hf]
  · rintro p rfl; rfl
  · rintro m rfl; rfl
  · rintro rfl; rfl
  · rintro rfl; rfl
  · cases i <;> simp [Instr.agent, emits]

/-- Settles O37, by induction on the operations: the last LED event of a run is the last one of its rest, if that has one. -/
theorem ledIsItsLastEvent : Obligations.LedIsItsLastEvent := by
  intro ops
  induction ops with
  | nil => intro s t _ h; cases h; exact ⟨[], by simp, rfl⟩
  | cons i is ih =>
    intro s t hs h
    obtain ⟨u, hu, ht⟩ := execAll_cons_next_iff.mp h
    have hi := ne_reset_of_exec hs hu
    obtain rfl := eq_effect_of_exec hu
    obtain ⟨es, hes, hled⟩ := ih _ t (effect_started i s hs) ht
    refine ⟨emits i s ++ es, by rw [hes, effect_events s hi, List.append_assoc], ?_⟩
    rw [hled, effect_led s hi, lastLedEvent_append, Option.getD_or]

/-- Settles O58: the signals are read off the operation, and the fields follow its effect. -/
theorem inputSignalsDriveTheirEffects : Obligations.InputSignalsDriveTheirEffects := by
  refine ⟨fun i s => ?_, fun i s t hs h => ?_⟩
  · refine ⟨?_, ?_, ?_, ?_, ?_, ?_, eq_pinSet_of_swIn_ne i s, fun m hm => ?tgl⟩
    case tgl => cases i <;> simp [inputsOf, Inputs.quiet, hm.symm]
    all_goals cases i <;> simp [inputsOf, Inputs.quiet, pinBit_setPinBit]
  · have hi := ne_reset_of_exec hs h
    obtain ⟨hlvl, hsw, hled, hgie⟩ := effect_follows_inputs s hi
    refine ⟨?_, ?_, ?_, ?_, fun hp => led_eq_of_exec_idle hs hp h⟩ <;> rw [eq_effect_of_exec h] <;> assumption

/-- MODE's two bits (R32). -/
theorem State.mode_bits (s : State) : s.mode.getLsbD 0 = s.play ∧ s.mode.getLsbD 1 = s.flash := by
  cases hp : s.play <;> cases hf : s.flash <;> simp [State.mode, hp, hf]

/-- Settles O56: the request is SVC_ENTER's guard, and the other signals are read off the state. -/
theorem outputSignalsFollowTheState : Obligations.OutputSignalsFollowTheState := by
  refine ⟨fun s hs => ?_, fun s => ?_, fun s h => ?_, fun s h => ?_, fun s => ⟨rfl, rfl⟩, State.mode_bits⟩
  · simp [State.outputs, exec_svcEnter_next_iff, hs]
  · simp [State.outputs]
  · simp [State.outputs, h]
  · simp [State.outputs, h]

end Sys2Proof.Machine
end

section
/-!
PROOFS. The statements on memory (20_memory.md): the byte form of a trace (R61), and which operation may write which field
(R63, R212).
-/

namespace Sys2Proof

/-- The two bytes of a word, upper first, hold that word (R61). -/
@[simp] theorem wordOfBytes_extractLsb' (w : Word) : wordOfBytes (w.extractLsb' 8 8) (w.extractLsb' 0 8) = w :=
  BitVec.extractLsb'_append_extractLsb' (w := 8)

@[simp] theorem traceBytes_cons (w : Word) (ws : List Word) :
    traceBytes (w :: ws) = w.extractLsb' 8 8 :: w.extractLsb' 0 8 :: traceBytes ws := rfl

/-- Reading the bytes of a trace gives the trace, by induction on its words (R61). -/
theorem traceOfBytes_traceBytes (ws : List Word) : traceOfBytes (traceBytes ws) = some ws := by
  induction ws with
  | nil => rfl
  | cons w ws ih => simp [traceOfBytes, ih]

/-- Settles O6: the read-back above, and the bytes of a trace with one word more. -/
theorem traceBytesReadBack : Obligations.TraceBytesReadBack :=
  fun ws => ⟨traceOfBytes_traceBytes ws, fun w => traceBytes_cons w ws⟩

end Sys2Proof

namespace Sys2Proof.Machine

/-- Settles O34: RESET, which writes every field, is past (R231), and the updates that `effect` lists for an operation name
the fields it writes; a button step has none but the sequencer's move while its button shows released. -/
theorem onlyNamedOperationsWriteEachField : Obligations.OnlyNamedOperationsWriteEachField := by
  intro i s t hs h
  have hi := ne_reset_of_exec hs h
  obtain rfl := eq_effect_of_exec h
  cases i with
  | reset r l => exact absurd rfl (hi r l)
  | svcBtn1 | svcBtn2 | svcBtn3 | svcBtn4 => simp only [effect]; split <;> simp [hs, Instr.agent]
  | _ => simp [effect, hs, Instr.agent]

end Sys2Proof.Machine
end

section
/-!
PROOFS. The encoding (30_encoding.md): the rows of the opcode table are pairwise disjoint, so a word is decoded by the one
row that selects it; encoding undoes a row's field values; and the words without a row are those R85 lists.
-/

namespace Sys2Proof

theorem OpcodeRow.selects_iff {r : OpcodeRow} {w : Word} : r.selects w = true ↔ w &&& r.mask = r.pat := by
  simp [OpcodeRow.selects]

/-- Two rows that fix a common bit to different values have no word in common. -/
theorem OpcodeRow.not_selects_both {a b : OpcodeRow} (h : a.pat &&& b.mask ≠ b.pat &&& a.mask) (w : Word) :
    ¬ (a.selects w = true ∧ b.selects w = true) := by
  simp only [selects_iff]
  rintro ⟨ha, hb⟩
  apply h
  rw [← ha, ← hb, BitVec.and_assoc, BitVec.and_assoc, BitVec.and_comm a.mask]

/-- Any two rows of the table fix a common bit to different values. -/
theorem opcodeRows_pats_differ : opcodeRows.Pairwise fun a b => a.pat &&& b.mask ≠ b.pat &&& a.mask := by decide

/-- Settles O5, from the pairs of rows and not from the words. -/
theorem opcodeRowsAreDisjoint : Obligations.OpcodeRowsAreDisjoint :=
  opcodeRows_pats_differ.imp OpcodeRow.not_selects_both

/-- A word selects at most one row of the table. -/
theorem eq_of_selects {a b : OpcodeRow} {w : Word} (ha : a ∈ opcodeRows) (hb : b ∈ opcodeRows)
    (hwa : a.selects w = true) (hwb : b.selects w = true) : a = b := by
  have hR : opcodeRows.Pairwise fun a b => a.selects w = true → b.selects w = true → a = b :=
    opcodeRowsAreDisjoint.imp fun h ha hb => absurd ⟨ha, hb⟩ (h w)
  exact hR.forall_of_forall_of_flip (fun _ _ _ _ => rfl)
    (hR.imp fun h hb ha => (h ha hb).symm) ha hb hwa hwb

theorem decode_of_selects {r : OpcodeRow} {w : Word} (hr : r ∈ opcodeRows) (hw : r.selects w = true) :
    decode w = if (r.build w).wellFormed then .op (r.build w) else .invalid w := by
  have hfind : opcodeRows.find? (fun r => r.selects w) = some r := by
    cases hf : opcodeRows.find? (fun r => r.selects w) with
    | none => exact absurd hw (List.find?_eq_none.mp hf r hr)
    | some r' => rw [eq_of_selects (List.mem_of_find?_eq_some hf) hr (by simpa using List.find?_some hf) hw]
  simp only [decode, hfind]

theorem decode_of_no_row {w : Word} (h : ∀ r ∈ opcodeRows, ¬ r.selects w = true) : decode w = .invalid w := by
  simp only [decode, List.find?_eq_none.mpr h]

/-- The per-operation law `RowMatch`, for all of them. -/
theorem rowMatch (i : Instr) : Laws.RowMatch.Statement i := by
  cases i with
  | reset r l => exact Laws.RowMatch.reset r l
  | bootClk => exact Laws.RowMatch.bootClk
  | bootSwCfg => exact Laws.RowMatch.bootSwCfg
  | bootLedCfg => exact Laws.RowMatch.bootLedCfg
  | bootBuz => exact Laws.RowMatch.bootBuz
  | bootGie => exact Laws.RowMatch.bootGie
  | pinSet n v => exact Laws.RowMatch.pinSet n v
  | svcEnter => exact Laws.RowMatch.svcEnter
  | svcClear m => exact Laws.RowMatch.svcClear m
  | svcSnap => exact Laws.RowMatch.svcSnap
  | svcRearm q => exact Laws.RowMatch.svcRearm q
  | svcBtn1 => exact Laws.RowMatch.svcBtn1
  | svcBtn2 => exact Laws.RowMatch.svcBtn2
  | svcBtn3 => exact Laws.RowMatch.svcBtn3
  | svcBtn4 => exact Laws.RowMatch.svcBtn4
  | svcExit => exact Laws.RowMatch.svcExit
  | loopSetPeriod t => exact Laws.RowMatch.loopSetPeriod t
  | loopReadPlay => exact Laws.RowMatch.loopReadPlay
  | loopReadFlash => exact Laws.RowMatch.loopReadFlash
  | loopFlashTgl m => exact Laws.RowMatch.loopFlashTgl m
  | loopDelay => exact Laws.RowMatch.loopDelay

/-- Settles O2: the row of the mnemonic selects the word, and by disjointness no other row does. -/
theorem decodeOfEncodeIsTheOperation : Obligations.DecodeOfEncodeIsTheOperation := by
  intro i hi
  obtain ⟨r, hr, -, hw, hb⟩ := rowMatch i
  rw [decode_of_selects hr hw, hb, if_pos hi]

/-- A field that a row's mask covers holds the pattern's bits in every word of the row. -/
theorem extractLsb'_of_masked {w mask pat : Word} (h : w &&& mask = pat) (start len : Nat)
    (hm : mask.extractLsb' start len = BitVec.allOnes len := by rfl) :
    pat.extractLsb' start len = w.extractLsb' start len := by
  rw [← h, BitVec.extractLsb'_and, hm, BitVec.and_allOnes]

theorem eq_of_full_mask {w pat : Word} (h : w &&& 0xFFFF#16 = pat) : pat = w := by
  rw [← h, show 0xFFFF#16 = BitVec.allOnes 16 from rfl, BitVec.and_allOnes]

/-- Formats with one field at the bottom of the word (R81, R82). -/
theorem append_field {a b : Nat} {w : BitVec (a + b)} {hi : BitVec a} (h : hi = w.extractLsb' b a) :
    hi ++ w.extractLsb' 0 b = w := by
  rw [h, BitVec.extractLsb'_append_extractLsb']

theorem encode_reset_fields {w : Word} (h : w &&& 0xFFC0#16 = 0x0000#16) :
    encode (.reset (w.extractLsb' 0 4) (w.extractLsb' 4 2)) = w := by
  refine append_field (a := 12) (b := 4) ?_
  rw [show 0b0000000000#10 = w.extractLsb' 6 10 from extractLsb'_of_masked h 6 10]
  exact BitVec.extractLsb'_append_extractLsb'_eq_extractLsb' rfl

theorem ofBool_getLsbD_eq_extractLsb' (w : Word) (i : Nat) : BitVec.ofBool (w.getLsbD i) = w.extractLsb' i 1 := by
  apply BitVec.eq_of_getLsbD_eq
  intro j hj
  obtain rfl : j = 0 := by omega
  simp

theorem encode_pinSet_fields {w : Word} (h : w &&& 0xFFEC#16 = 0x1000#16) :
    encode (.pinSet (w.extractLsb' 0 2).toFin (w.getLsbD 4)) = w := by
  refine append_field (a := 14) (b := 2) ?_
  rw [ofBool_getLsbD_eq_extractLsb', show 0b00010000000#11 = w.extractLsb' 5 11 from extractLsb'_of_masked h 5 11,
    show 0b00#2 = w.extractLsb' 2 2 from extractLsb'_of_masked h 2 2,
    BitVec.extractLsb'_append_extractLsb'_eq_extractLsb' (start₁ := 4) (start₂ := 5) rfl]
  exact BitVec.extractLsb'_append_extractLsb'_eq_extractLsb' rfl

/-- A row builds from each of its words an operation with that word (R84, R86). -/
theorem encode_build {r : OpcodeRow} {w : Word} (hr : r ∈ opcodeRows) (hw : r.selects w = true) :
    encode (r.build w) = w := by
  rw [OpcodeRow.selects_iff] at hw
  simp only [opcodeRows, bootRows, envRows, seqRows, loopRows, List.mem_append, List.mem_cons, List.not_mem_nil,
    or_false, or_assoc] at hr
  obtain rfl | rfl | rfl | rfl | rfl | rfl | rfl | rfl | rfl | rfl | rfl | rfl | rfl | rfl | rfl | rfl | rfl | rfl |
    rfl | rfl | rfl := hr
  · exact encode_reset_fields hw
  iterate 5 · exact eq_of_full_mask hw
  · exact encode_pinSet_fields hw
  · exact eq_of_full_mask hw
  · exact append_field (a := 12) (extractLsb'_of_masked hw 4 12)
  · exact eq_of_full_mask hw
  · exact append_field (a := 12) (extractLsb'_of_masked hw 4 12)
  iterate 5 · exact eq_of_full_mask hw
  · exact append_field (a := 4) (extractLsb'_of_masked hw 12 4)
  iterate 2 · exact eq_of_full_mask hw
  · exact append_field (a := 14) (extractLsb'_of_masked hw 2 14)
  · exact eq_of_full_mask hw

/-- Decoding has two outcomes: the well-formed operation whose word it is, or Invalid of the word (R86). -/
theorem decode_cases (w : Word) :
    (∃ i, decode w = .op i ∧ encode i = w ∧ i.WellFormed) ∨ decode w = .invalid w := by
  by_cases h : ∃ r ∈ opcodeRows, r.selects w = true
  · obtain ⟨r, hr, hw⟩ := h
    rw [decode_of_selects hr hw]
    split
    next hwf => exact .inl ⟨_, rfl, encode_build hr hw, hwf⟩
    next => exact .inr rfl
  · exact .inr (decode_of_no_row fun r hr hw => h ⟨r, hr, hw⟩)

/-- Settles O3: a row that selects the word builds an operation with that word, and without one the word is Invalid. -/
theorem encodeOfDecodeIsTheWord : Obligations.EncodeOfDecodeIsTheWord := decode_cases

/-- Outside class 3, each class and function that R85 does not reserve has a row, which fixes the two and the reserved
`arg` bits. -/
theorem exists_row_of_class_fn : ∀ cls fn : BitVec 4, cls.toNat < 5 → cls.toNat ≠ 3 →
    (cls.toNat = 0 → fn.toNat < 6) → (cls.toNat = 1 → fn.toNat < 1) → (cls.toNat = 2 → fn.toNat < 9) →
    (cls.toNat = 4 → fn.toNat < 4) →
    ∃ r ∈ opcodeRows, r.pat = cls ++ fn ++ 0x00#8 ∧
      r.mask = 0xF#4 ++ 0xF#4 ++ reservedWord.reservedArgBits cls.toNat fn.toNat := by
  decide

theorem append_class_fn_arg (w : Word) : w.extractLsb' 12 4 ++ w.extractLsb' 8 4 ++ w.extractLsb' 0 8 = w :=
  append_field (a := 8) (b := 8) (BitVec.extractLsb'_append_extractLsb'_eq_extractLsb' rfl)

/-- A word of class 3 is a tone word, whatever its period (R81, format T). -/
theorem exists_row_of_class_three {w : Word} (h : (w.extractLsb' 12 4).toNat = 3) :
    ∃ r ∈ opcodeRows, r.selects w = true := by
  obtain ⟨r, hr, -, hw, -⟩ := rowMatch (.loopSetPeriod (w.extractLsb' 0 12))
  have he : encode (.loopSetPeriod (w.extractLsb' 0 12)) = w :=
    append_field (a := 4) (b := 12) (BitVec.eq_of_toNat_eq h.symm)
  exact ⟨r, hr, he ▸ hw⟩

/-- Every word R85 does not list selects a row. -/
theorem exists_row_of_not_reserved {w : Word} (h : reservedWord w = false) :
    ∃ r ∈ opcodeRows, r.selects w = true := by
  by_cases h3 : (w.extractLsb' 12 4).toNat = 3
  · exact exists_row_of_class_three h3
  simp only [reservedWord, Bool.or_eq_false_iff, Bool.and_eq_false_imp, decide_eq_false_iff_not, Nat.not_le,
    beq_iff_eq, bne_eq_false_iff_eq, Bool.or_eq_true] at h
  obtain ⟨⟨⟨⟨⟨⟨hcls, h0⟩, h1⟩, h2⟩, h4⟩, harg⟩, -⟩ := h
  obtain ⟨r, hr, hpat, hmask⟩ := exists_row_of_class_fn _ _ hcls h3 h0 h1 h2 h4
  refine ⟨r, hr, OpcodeRow.selects_iff.mpr ?_⟩
  have ones (v : BitVec 4) : v &&& 0xF#4 = v := BitVec.and_allOnes
  rw [hpat, hmask]
  nth_rw 1 [← append_class_fn_arg w]
  rw [BitVec.and_append, BitVec.and_append, ones, ones, harg (by omega)]
  rfl

/-- No operation's word is one of those R85 lists. -/
theorem not_reserved_encode {i : Instr} (hi : i.WellFormed) : reservedWord (encode i) = false := by
  cases i with
  | reset r l => revert r l; decide
  | pinSet n v => revert n v; decide
  | svcClear m => revert m; decide
  | svcRearm q => revert q; decide
  | loopSetPeriod t =>
    have hcls : (encode (.loopSetPeriod t)).extractLsb' 12 4 = 3#4 := BitVec.extractLsb'_append_eq_left
    simp [reservedWord, hcls]
  | loopFlashTgl m => revert m; decide
  | _ => decide

/-- 0x4200 is the one word that selects a row and spells no operation (R85). -/
theorem eq_of_build_not_wellFormed {r : OpcodeRow} {w : Word} (hr : r ∈ opcodeRows) (hw : r.selects w = true)
    (hwf : (r.build w).wellFormed = false) : w = 0x4200#16 := by
  have he := encode_build hr hw
  revert he hwf
  cases r.build w with
  | loopFlashTgl m =>
    intro hm he
    obtain rfl : m = 0b00#2 := by simpa [Instr.wellFormed] using hm
    exact he.symm
  | _ => simp [Instr.wellFormed]

theorem decode_eq_invalid_iff (w : Word) : decode w = .invalid w ↔ reservedWord w = true := by
  constructor
  · intro hd
    by_contra hres
    obtain ⟨r, hr, hw⟩ := exists_row_of_not_reserved (Bool.eq_false_of_not_eq_true hres)
    have hwf : (r.build w).wellFormed = false := by simpa [decode_of_selects hr hw] using hd
    exact hres (eq_of_build_not_wellFormed hr hw hwf ▸ rfl)
  · intro hres
    obtain ⟨i, -, rfl, hi⟩ | hd := decode_cases w
    · simp [not_reserved_encode hi] at hres
    · exact hd

/-- Settles O1: only the printed words are compared; the decoder follows by the round trip. -/
theorem workedEncodingsBothWays : Obligations.WorkedEncodingsBothWays := by
  intro p hp
  suffices h : encode p.1 = p.2 ∧ p.1.WellFormed from ⟨h.1, h.1 ▸ decodeOfEncodeIsTheOperation p.1 h.2⟩
  revert p
  decide

end Sys2Proof
end

section
/-!
PROOFS. A step by its word (R83, R207), and what stops every operation but RESET before the first word (R231).
-/

namespace Sys2Proof.Machine

variable {s : State}

theorem step_of_trace_cons {w : Word} {rest : List Word} (h : s.trace = w :: rest) :
    step s = execWord w (s.setTrace rest) := by
  cases hd : decode w <;> simp [step, fetch, h, execWord, hd]

theorem step_of_trace_nil (h : s.trace = []) : step s = .refused .traceEnd := by
  simp only [step, fetch, h]

theorem execWord_of_op {w : Word} {i : Instr} (h : decode w = .op i) (s : State) : execWord w s = exec i s := by
  simp only [execWord, h]

theorem execWord_of_invalid {w : Word} (h : decode w = .invalid w) (s : State) :
    execWord w s = .refused (.invalid w) := by
  simp only [execWord, h]

/-- Settles O4: the decoder's refusals are R85's words, and a step by such a word ends in the refusal. -/
theorem invalidWordsAreTheReservedOnes : Obligations.InvalidWordsAreTheReservedOnes :=
  ⟨decode_eq_invalid_iff, fun w s hres => execWord_of_invalid ((decode_eq_invalid_iff w).mpr hres) s⟩

/-- Settles O8, one clause per outcome of the next word. -/
theorem stepRunsTheNextWord : Obligations.StepRunsTheNextWord :=
  ⟨fun _ _ _ _ ht hd => (step_of_trace_cons ht).trans (execWord_of_op hd _),
   fun _ _ _ ht hd => (step_of_trace_cons ht).trans (execWord_of_invalid hd _),
   fun _ => step_of_trace_nil⟩

@[simp] theorem tableWord_toNat (w : Word) : tableWord 16 w.toNat = w := by
  rw [tableWord, Nat.mod_eq_of_lt w.isLt, BitVec.ofNat_toNat, BitVec.setWidth_eq]

/-- Taking a placed word leaves the state it was placed in. -/
theorem step_withFetchWord_toNat (s : State) (w : Word) : step (s.withFetchWord 16 w.toNat) = execWord w s := by
  rw [State.withFetchWord, tableWord_toNat]
  exact step_of_trace_cons rfl

/-- Settles O9, by the decoder's round trip. -/
theorem stepRunsTheEncodedOperation : Obligations.StepRunsTheEncodedOperation := fun i s hi => by
  rw [step_withFetchWord_toNat, execWord_of_op (decodeOfEncodeIsTheOperation i hi)]

section BeforeReset
variable (hs : s.started = false)
include hs

theorem State.seqAt_of_not_started (p : SvcPos) : s.seqAt p = false := by simp [State.seqAt, hs]
theorem State.loopFree_of_not_started : s.loopFree = false := by simp [State.loopFree, hs]
theorem State.loopAt_of_not_started (p : LoopPos) : s.loopAt p = false := by
  simp [State.loopAt, State.loopFree_of_not_started hs]

end BeforeReset

/-- Settles O11: every guard but RESET's asks for `started`. -/
theorem nothingRunsBeforeReset : Obligations.NothingRunsBeforeReset := by
  intro i s hs hi
  have hseq := State.seqAt_of_not_started hs
  have hfree := State.loopFree_of_not_started hs
  have hloop := State.loopAt_of_not_started hs
  cases i with
  | reset r l => exact absurd rfl (hi r l)
  | pinSet n v => simp [exec, execPinSet, hs]
  | svcEnter => simp [exec, execSvcEnter, hs]
  | svcClear m => simp [exec, execSvcClear, hseq]
  | svcSnap => simp [exec, execSvcSnap, hseq]
  | svcRearm q => simp [exec, execSvcRearm, hseq]
  | svcBtn1 => simp [exec, execSvcBtn1, buttonStep, hseq]
  | svcBtn2 => simp [exec, execSvcBtn2, buttonStep, hseq]
  | svcBtn3 => simp [exec, execSvcBtn3, buttonStep, hseq]
  | svcBtn4 => simp [exec, execSvcBtn4, buttonStep, hseq]
  | svcExit => simp [exec, execSvcExit, hseq]
  | bootClk => simp [exec, execBootClk, hloop]
  | bootSwCfg => simp [exec, execBootSwCfg, hloop]
  | bootLedCfg => simp [exec, execBootLedCfg, hloop]
  | bootBuz => simp [exec, execBootBuz, hloop]
  | bootGie => simp [exec, execBootGie, hloop]
  | loopReadPlay => simp [exec, execLoopReadPlay, hloop]
  | loopReadFlash => simp [exec, execLoopReadFlash, hloop]
  | loopSetPeriod t => simp [exec, execLoopSetPeriod, hfree]
  | loopFlashTgl m => simp [exec, execLoopFlashTgl, hfree]
  | loopDelay => simp [exec, execLoopDelay, hfree]

end Sys2Proof.Machine
end

section
/-!
PROOFS. Trace assembly (R87): the texts of binary and decimal operands read back, a line of plain pieces is split where it
was joined, and so every printed operation assembles to itself.
-/

namespace Sys2Proof.Machine

/-- A piece of a printed line: not empty, and without the characters a line is split at. -/
structure Plain (cs : List Char) : Prop where
  ne_nil : cs ≠ []
  ne_blank : ∀ c ∈ cs, c ≠ ' '
  ne_comma : ∀ c ∈ cs, c ≠ ','
  ne_semicolon : ∀ c ∈ cs, c ≠ ';'

/-- Operands after the first, as `asmOf` lays them out (log entry 16). -/
def moreOperands : List (List Char) → List Char
  | [] => []
  | x :: xs => ',' :: ' ' :: x ++ moreOperands xs

section Blanks
variable {cs ds : List Char}

theorem trimBlanks_eq_self (hhead : cs.head? ≠ some ' ') (hlast : cs.getLast? ≠ some ' ') : trimBlanks cs = cs := by
  rw [trimBlanks, List.dropWhile_beq_eq_self_of_head?_ne hhead,
    List.dropWhile_beq_eq_self_of_head?_ne (by rwa [List.head?_reverse]), List.reverse_reverse]

@[simp] theorem trimBlanks_blank_cons (cs : List Char) : trimBlanks (' ' :: cs) = trimBlanks cs := rfl

theorem Plain.head?_append_ne_blank (h : Plain cs) (ds : List Char) : (cs ++ ds).head? ≠ some ' ' := by
  rw [List.head?_append_of_ne_nil _ h.ne_nil]
  exact fun hm => h.ne_blank _ (List.mem_of_mem_head? hm) rfl

theorem Plain.getLast?_append_ne_blank (h : Plain cs) (hds : ds.getLast? ≠ some ' ') :
    (cs ++ ds).getLast? ≠ some ' ' := by
  rw [List.getLast?_append, ne_eq, Option.or_eq_some_iff]
  rintro (hm | ⟨-, hm⟩)
  · exact hds hm
  · exact h.ne_blank _ (List.mem_of_mem_getLast? hm) rfl

theorem Plain.trimBlanks_append (h : Plain cs) (hds : ds.getLast? ≠ some ' ') : trimBlanks (cs ++ ds) = cs ++ ds :=
  trimBlanks_eq_self (h.head?_append_ne_blank ds) (h.getLast?_append_ne_blank hds)

theorem Plain.trimBlanks_eq (h : Plain cs) : trimBlanks cs = cs := by
  simpa using h.trimBlanks_append (ds := []) (by simp)

end Blanks

section Line
variable {x : List Char} {xs : List (List Char)}

theorem splitAtChar_ne_nil (sep : Char) (cs : List Char) : splitAtChar sep cs ≠ [] := by
  cases cs with
  | nil => simp [splitAtChar]
  | cons c cs => simp only [splitAtChar]; split <;> [simp; (split <;> simp)]

theorem splitAtChar_sep_cons (sep : Char) (cs : List Char) :
    splitAtChar sep (sep :: cs) = [] :: splitAtChar sep cs := by
  cases h : splitAtChar sep cs with
  | nil => exact absurd h (splitAtChar_ne_nil sep cs)
  | cons p ps => simp [splitAtChar, h]

/-- Characters that are not separators go to the first piece. -/
theorem splitAtChar_append {sep : Char} {cs ds p : List Char} {ps : List (List Char)} (hcs : ∀ c ∈ cs, c ≠ sep)
    (hds : splitAtChar sep ds = p :: ps) : splitAtChar sep (cs ++ ds) = (cs ++ p) :: ps := by
  induction cs with
  | nil => exact hds
  | cons c cs ih =>
    obtain ⟨hc, hcs⟩ := List.forall_mem_cons.mp hcs
    simp [splitAtChar, ih hcs, hc]

/-- The operands split at their commas, each after the first with the blank before it. -/
theorem splitAtChar_operands (hx : ∀ c ∈ x, c ≠ ',') (hxs : ∀ y ∈ xs, Plain y) :
    splitAtChar ',' (x ++ moreOperands xs) = x :: xs.map (' ' :: ·) := by
  induction xs generalizing x with
  | nil => simpa [moreOperands] using splitAtChar_append (ds := []) hx rfl
  | cons y ys ih =>
    obtain ⟨hy, hys⟩ := List.forall_mem_cons.mp hxs
    have hblank : ∀ c ∈ ' ' :: y, c ≠ ',' := by simpa using hy.ne_comma
    simpa [moreOperands] using
      splitAtChar_append hx ((splitAtChar_sep_cons ',' _).trans (congrArg _ (ih hblank hys)))

theorem map_trimBlanks_operands (hx : Plain x) (hxs : ∀ y ∈ xs, Plain y) :
    (x :: xs.map (' ' :: ·)).map trimBlanks = x :: xs := by
  have htail : (xs.map (' ' :: ·)).map trimBlanks = xs := by
    rw [List.map_map]
    exact List.map_congr_left (fun y hy => (hxs y hy).trimBlanks_eq) |>.trans (List.map_id _)
  rw [List.map_cons, hx.trimBlanks_eq, htail]

theorem getLast?_moreOperands_ne_blank (hxs : ∀ y ∈ xs, Plain y) : (moreOperands xs).getLast? ≠ some ' ' := by
  induction xs with
  | nil => simp [moreOperands]
  | cons y ys ih =>
    obtain ⟨hy, hys⟩ := List.forall_mem_cons.mp hxs
    have hne : y ++ moreOperands ys ≠ [] := by simp [hy.ne_nil]
    rw [moreOperands, List.cons_append, List.cons_append, List.getLast?_cons_cons, List.getLast?_cons_of_ne_nil hne]
    exact hy.getLast?_append_ne_blank (ih hys)

theorem ne_semicolon_of_mem_moreOperands (hxs : ∀ y ∈ xs, Plain y) : ∀ c ∈ moreOperands xs, c ≠ ';' := by
  induction xs with
  | nil => simp [moreOperands]
  | cons y ys ih =>
    obtain ⟨hy, hys⟩ := List.forall_mem_cons.mp hxs
    rw [moreOperands, List.forall_mem_append]
    exact ⟨by simpa using hy.ne_semicolon, ih hys⟩

/-- The layout of a printed line: the name, and a blank before the operands (log entry 16). -/
def printedLine (name : List Char) : List (List Char) → List Char
  | [] => name
  | x :: xs => name ++ ' ' :: (x ++ moreOperands xs)

/-- A line that is a name alone is read as the operation of that name without operands (R87). -/
theorem assembleLine_of_name {line name : String} {i : Instr} (hname : Plain name.toList)
    (hline : line.toList = name.toList) (hi : instrOf name [] = some i) : assembleLine line = some [i] := by
  have hcomment : name.toList.takeWhile (· != ';') = name.toList :=
    List.takeWhile_eq_self_iff.mpr (by simpa using hname.ne_semicolon)
  have hblank : ∀ c ∈ name.toList, (c != ' ') = true := by simpa using hname.ne_blank
  have hhead : name.toList.takeWhile (· != ' ') = name.toList := List.takeWhile_eq_self_iff.mpr hblank
  have htail : name.toList.dropWhile (· != ' ') = [] := List.dropWhile_eq_nil_iff.mpr hblank
  simp only [assembleLine, hline, hcomment, hname.trimBlanks_eq, hhead, htail, String.ofList_toList]
  simp [hname.ne_nil, hi, trimBlanks]

/-- A line of a name, a blank and operands is read as the operation of that name and those operands (R87). -/
theorem assembleLine_of_operands {line name : String} {i : Instr} (hname : Plain name.toList) (hx : Plain x)
    (hxs : ∀ y ∈ xs, Plain y) (hline : line.toList = name.toList ++ ' ' :: (x ++ moreOperands xs))
    (hi : instrOf name (x :: xs) = some i) : assembleLine line = some [i] := by
  have hlast := getLast?_moreOperands_ne_blank hxs
  have hblank : ∀ c ∈ name.toList, (c != ' ') = true := by simpa using hname.ne_blank
  have hcomment : line.toList.takeWhile (· != ';') = line.toList := by
    rw [List.takeWhile_eq_self_iff, hline, List.forall_mem_append, List.forall_mem_cons, List.forall_mem_append]
    simp only [bne_iff_ne]
    exact ⟨hname.ne_semicolon, by decide, hx.ne_semicolon, ne_semicolon_of_mem_moreOperands hxs⟩
  have htext : trimBlanks line.toList = line.toList := by
    rw [hline]
    refine hname.trimBlanks_append ?_
    rw [List.getLast?_cons_of_ne_nil (by simp [hx.ne_nil])]
    exact hx.getLast?_append_ne_blank hlast
  have hhead : line.toList.takeWhile (· != ' ') = name.toList := by
    simp [hline, List.takeWhile_append_of_pos hblank]
  have htail : trimBlanks (line.toList.dropWhile (· != ' ')) = x ++ moreOperands xs := by
    simp [hline, List.dropWhile_append_of_pos hblank, hx.trimBlanks_append hlast]
  have hops : (splitAtChar ',' (x ++ moreOperands xs)).map trimBlanks = x :: xs := by
    rw [splitAtChar_operands hx.ne_comma hxs, map_trimBlanks_operands hx hxs]
  simp only [assembleLine, hcomment, htext, hhead, htail, hops, String.ofList_toList]
  simp [hx.ne_nil, hi, hline]

end Line

section Digits

theorem mem_binLiteral {n : Nat} (v : BitVec n) : ∀ c ∈ (binLiteral v).toList, c = '0' ∨ c = 'b' ∨ c = '1' := by
  simp only [binLiteral, binDigits, String.toList_ofList, List.forall_mem_cons, List.forall_mem_map]
  refine ⟨by simp, by simp, fun i _ => ?_⟩
  split <;> simp

theorem plain_binLiteral {n : Nat} (v : BitVec n) : Plain (binLiteral v).toList := by
  refine ⟨by simp [binLiteral], ?_, ?_, ?_⟩ <;>
    exact fun c hc => by obtain rfl | rfl | rfl := mem_binLiteral v c hc <;> decide

theorem binValue_digit_cons (acc : Nat) (b : Bool) (cs : List Char) :
    binValue acc ((if b then '1' else '0') :: cs) = binValue (2 * acc + b.toNat) cs := by
  cases b <;> rfl

/-- Reading the lowest `n` digits of a vector after `acc`, by induction on `n`. -/
theorem binValue_lowDigits {m : Nat} (v : BitVec m) (acc n : Nat) :
    binValue acc ((List.range n).reverse.map fun i => if v.getLsbD i then '1' else '0') =
      some (acc * 2 ^ n + v.toNat % 2 ^ n) := by
  induction n generalizing acc with
  | zero => simp [binValue, Nat.mod_one]
  | succ n ih =>
    have hmod : v.toNat % 2 ^ (n + 1) = v.toNat % 2 ^ n + 2 ^ n * (v.getLsbD n).toNat := by
      rw [Nat.mod_pow_succ, ← Nat.toNat_testBit, BitVec.testBit_toNat]
    rw [List.range_succ, List.reverse_append, List.reverse_singleton, List.singleton_append, List.map_cons,
      binValue_digit_cons, ih, hmod]
    congr 1
    ring

@[simp] theorem readBin_binLiteral {n : Nat} (v : BitVec n) : readBin n (binLiteral v).toList = some v := by
  have hval : binValue 0 (binDigits v) = some v.toNat := by
    simpa [binDigits, Nat.mod_eq_of_lt v.isLt] using binValue_lowDigits v 0 n
  have hlen : (binDigits v).length = n := by simp [binDigits]
  simp [binLiteral, readBin, hlen, hval]

theorem decDigit_spec :
    ∀ d < 10, ('0' ≤ decDigit d ∧ decDigit d ≤ '9') ∧ (decDigit d).toNat - '0'.toNat = d := by
  decide

theorem decValue_append_decDigit {d : Nat} (hd : d < 10) (acc : Nat) (cs : List Char) :
    decValue acc (cs ++ [decDigit d]) = (decValue acc cs).map fun a => 10 * a + d := by
  induction cs generalizing acc with
  | nil =>
    obtain ⟨hdigit, hval⟩ := decDigit_spec d hd
    simp only [List.nil_append, decValue, if_pos hdigit, hval, Option.map_some]
  | cons c cs ih =>
    simp only [List.cons_append, decValue]
    split
    · exact ih _
    · rfl

/-- A number of at most `places` digits is the value of its digits, by induction on the places. -/
theorem decValue_decDigits {places v : Nat} (h : v < 10 ^ places) : decValue 0 (decDigits places v) = some v := by
  induction places generalizing v with
  | zero =>
    obtain rfl : v = 0 := by simpa using h
    rfl
  | succ p ih =>
    rw [decDigits]
    split
    next hv => simpa [decValue] using decValue_append_decDigit hv 0 []
    next =>
      rw [decValue_append_decDigit (Nat.mod_lt _ (by decide)), ih (by omega), Option.map_some, Nat.div_add_mod]

theorem decDigits_are_digits {places v : Nat} : ∀ c ∈ decDigits places v, '0' ≤ c ∧ c ≤ '9' := by
  induction places generalizing v with
  | zero => simp [decDigits]
  | succ p ih =>
    rw [decDigits]
    split
    next hv => simpa using (decDigit_spec v hv).1
    next =>
      rw [List.forall_mem_append]
      exact ⟨ih, by simpa using (decDigit_spec _ (Nat.mod_lt v (by decide))).1⟩

theorem decDigits_succ_ne_nil (places v : Nat) : decDigits (places + 1) v ≠ [] := by
  rw [decDigits]
  split <;> simp

theorem plain_of_digits {cs : List Char} (hne : cs ≠ []) (h : ∀ c ∈ cs, '0' ≤ c ∧ c ≤ '9') : Plain cs := by
  refine ⟨hne, ?_, ?_, ?_⟩ <;>
    · rintro c hc rfl
      exact absurd (h _ hc) (by decide)

theorem plain_decLiteral (v : Nat) : Plain (decLiteral v).toList := by
  rw [decLiteral, String.toList_ofList]
  exact plain_of_digits (decDigits_succ_ne_nil 3 v) decDigits_are_digits

theorem readDec_decLiteral {bound v : Nat} (hv : v < bound) (hb : bound ≤ 10000) :
    readDec bound (decLiteral v).toList = some v := by
  have hval : decValue 0 (decDigits 4 v) = some v := decValue_decDigits (by omega)
  rw [decLiteral, String.toList_ofList]
  cases hd : decDigits 4 v with
  | nil => exact absurd hd (decDigits_succ_ne_nil 3 v)
  | cons c cs => simp [readDec, ← hd, hval, hv]

@[simp] theorem readPin_decLiteral (n : Pin) : readPin (decLiteral n.val).toList = some n := by
  simp [readPin, readDec_decLiteral n.isLt]

@[simp] theorem readLevel_digit (v : Bool) : readLevel (if v then ['1'] else ['0']) = some v := by
  cases v <;> rfl

end Digits

/-- The texts of an operation's operands, in the order of R87. -/
def operandTexts : Instr → List (List Char)
  | .reset r l => [(binLiteral r).toList, (binLiteral l).toList]
  | .pinSet n v => [(decLiteral n.val).toList, if v then ['1'] else ['0']]
  | .svcClear m => [(binLiteral m).toList]
  | .svcRearm q => [(binLiteral q).toList]
  | .loopSetPeriod t => [(decLiteral t.toNat).toList]
  | .loopFlashTgl m => [(binLiteral m).toList]
  | _ => []

/-- `asmOf` joins the mnemonic and the operand texts; `show` states each form of R87 that has operands. -/
theorem asmOf_toList (i : Instr) : (asmOf i).toList = printedLine (mnemonicOf i).toList (operandTexts i) := by
  cases i with
  | reset r l =>
    show ("RESET " ++ binLiteral r ++ ", " ++ binLiteral l).toList = _
    simp [mnemonicOf, operandTexts, printedLine, moreOperands]
  | pinSet n v =>
    show ("PIN_SET " ++ decLiteral n.val ++ ", " ++ (if v then "1" else "0")).toList = _
    cases v <;> simp [mnemonicOf, operandTexts, printedLine, moreOperands]
  | svcClear m =>
    show ("SVC_CLEAR " ++ binLiteral m).toList = _
    simp [mnemonicOf, operandTexts, printedLine, moreOperands]
  | svcRearm q =>
    show ("SVC_REARM " ++ binLiteral q).toList = _
    simp [mnemonicOf, operandTexts, printedLine, moreOperands]
  | loopSetPeriod t =>
    show ("LOOP_SET_PERIOD " ++ decLiteral t.toNat).toList = _
    simp [mnemonicOf, operandTexts, printedLine, moreOperands]
  | loopFlashTgl m =>
    show ("LOOP_FLASH_TGL " ++ binLiteral m).toList = _
    simp [mnemonicOf, operandTexts, printedLine, moreOperands]
  | _ => rfl

theorem plain_operandTexts (i : Instr) : ∀ x ∈ operandTexts i, Plain x := by
  cases i with
  | pinSet n v =>
    have hlevel : Plain (if v then ['1'] else ['0']) := by cases v <;> constructor <;> simp
    simp [operandTexts, plain_decLiteral, hlevel]
  | _ => simp [operandTexts, plain_binLiteral, plain_decLiteral]

theorem plain_mnemonicOf (i : Instr) : Plain (mnemonicOf i).toList := by
  have hne : (mnemonicOf i).toList ≠ [] := by cases i <;> simp [mnemonicOf]
  have hchars : (mnemonicOf i).toList.all (fun c => c != ' ' && c != ',' && c != ';') = true := by
    cases i <;> simp [mnemonicOf]
  simp only [List.all_eq_true, Bool.and_eq_true, bne_iff_ne, and_assoc] at hchars
  exact ⟨hne, fun c hc => (hchars c hc).1, fun c hc => (hchars c hc).2.1, fun c hc => (hchars c hc).2.2⟩

/-- The operand texts read back as the operands, under the form R87 gives the mnemonic. -/
theorem instrOf_operandTexts {i : Instr} (hi : i.WellFormed) : instrOf (mnemonicOf i) (operandTexts i) = some i := by
  cases i with
  | reset r l =>
    have hform (x y) : instrOf "RESET" [x, y] = (readBin 4 x).bind fun r => (readBin 2 y).map (.reset r) := rfl
    simp [mnemonicOf, operandTexts, hform]
  | pinSet n v =>
    have hform (x y) : instrOf "PIN_SET" [x, y] = (readPin x).bind fun n => (readLevel y).map (.pinSet n) := rfl
    simp [mnemonicOf, operandTexts, hform]
  | svcClear m => exact congrArg (Option.map Instr.svcClear) (readBin_binLiteral m)
  | svcRearm q => exact congrArg (Option.map Instr.svcRearm) (readBin_binLiteral q)
  | loopSetPeriod t =>
    have hform (x) : instrOf "LOOP_SET_PERIOD" [x] =
      (readDec 4096 x).map fun t => .loopSetPeriod (BitVec.ofNat 12 t) := rfl
    simp [mnemonicOf, operandTexts, hform, readDec_decLiteral t.isLt]
  | loopFlashTgl m =>
    have hform (x) : instrOf "LOOP_FLASH_TGL" [x] =
      (readBin 2 x).bind fun m => if m = 0b00#2 then none else some (.loopFlashTgl m) := rfl
    have hm : m ≠ 0b00#2 := by simpa [Instr.WellFormed, Instr.wellFormed] using hi
    simp [mnemonicOf, operandTexts, hform, hm]
  | _ => rfl

/-- Settles O7: printing lays out the mnemonic and the operand texts, and reading finds them again. -/
theorem assemblyReadsBackWhatItPrints : Obligations.AssemblyReadsBackWhatItPrints := by
  intro i hi
  have hline := asmOf_toList i
  have hplain := plain_operandTexts i
  have hread := instrOf_operandTexts hi
  cases hops : operandTexts i with
  | nil =>
    rw [hops] at hline hread
    exact assembleLine_of_name (plain_mnemonicOf i) hline hread
  | cons x xs =>
    rw [hops] at hline hplain hread
    obtain ⟨hx, hxs⟩ := List.forall_mem_cons.mp hplain
    exact assembleLine_of_operands (plain_mnemonicOf i) hx hxs hline hread

end Sys2Proof.Machine
end

section
/-!
PROOFS. QUIET_ITER (R88): loop operations commute with the two fields PIN_SET writes, so a run without sequencer steps does
what its loop operations do.
-/

namespace Sys2Proof.Machine

variable {s : State}

/-- The state with the two fields PIN_SET writes replaced (R63). -/
def State.withPins (s : State) (l p : Pins) : State := (s.setLvl l).setPend p

@[simp] theorem State.withPins_withPins (s : State) (l p l' p' : Pins) :
    (s.withPins l p).withPins l' p' = s.withPins l' p' := rfl

/-- The updates of a list of operations, their guards aside. -/
def effects : List Instr → State → State
  | [], s => s
  | i :: is, s => effects is (effect i s)

/-- A loop operation's updates neither read nor write `lvl` and `pend`. -/
theorem effect_withPins {i : Instr} (ha : i.agent = .loop) (s : State) (l p : Pins) :
    effect i (s.withPins l p) = (effect i s).withPins l p := by
  cases i <;> cases ha <;> rfl

theorem effects_withPins {ops : List Instr} (ha : ∀ i ∈ ops, i.agent = .loop) (s : State) (l p : Pins) :
    effects ops (s.withPins l p) = (effects ops s).withPins l p := by
  induction ops generalizing s with
  | nil => rfl
  | cons i is ih =>
    obtain ⟨hi, his⟩ := List.forall_mem_cons.mp ha
    rw [effects, effect_withPins hi, ih his, effects]

theorem opsOf_cons_of_agent {a : Agent} {i : Instr} (h : i.agent = a) (is : List Instr) :
    opsOf a (i :: is) = i :: opsOf a is := by
  simp [opsOf, h]

theorem opsOf_cons_of_agent_ne {a : Agent} {i : Instr} (h : i.agent ≠ a) (is : List Instr) :
    opsOf a (i :: is) = opsOf a is := by
  simp [opsOf, h]

theorem agent_of_mem_opsOf {a : Agent} {ops : List Instr} : ∀ i ∈ opsOf a ops, i.agent = a := by
  simp [opsOf]

/-- The switches' operations write `lvl` and `pend` alone once RESET is past (R63, R231). -/
theorem exec_env_eq_withPins {i : Instr} {t : State} (hs : s.started = true) (ha : i.agent = .env)
    (h : exec i s = .next t) : ∃ l p, t = s.withPins l p := by
  cases i <;> cases ha
  case reset r l => exact absurd rfl (ne_reset_of_exec hs h r l)
  case pinSet n v => exact (exec_pinSet_next_iff.mp h).2 ▸ s.drivePin_eq_set n v

/-- A run without sequencer steps makes the updates of its loop operations; switch changes anywhere in it touch `lvl` and
`pend` alone. -/
theorem eq_effects_of_no_seq {ops : List Instr} {t : State} (hs : s.started = true)
    (ha : ∀ i ∈ ops, i.agent ≠ .seq) (h : execAll ops s = .next t) :
    t = (effects (opsOf .loop ops) s).withPins t.lvl t.pend := by
  induction ops generalizing s with
  | nil => cases h; rfl
  | cons i is ih =>
    obtain ⟨hi, his⟩ := List.forall_mem_cons.mp ha
    obtain ⟨u, hu, hrest⟩ := execAll_cons_next_iff.mp h
    have hue := eq_effect_of_exec hu
    have ht := ih (hue ▸ effect_started i s hs) his hrest
    cases hag : i.agent with
    | seq => exact absurd hag hi
    | loop => rwa [opsOf_cons_of_agent hag, effects, ← hue]
    | env =>
      obtain ⟨l, p, rfl⟩ := exec_env_eq_withPins hs hag hu
      rwa [opsOf_cons_of_agent_ne (by simp [hag]), ← State.withPins_withPins _ l p,
        ← effects_withPins agent_of_mem_opsOf]

@[simp] theorem setPeriodNext_sil_silence : setPeriodNext .sil Config.silence = some .fchk := by simp [setPeriodNext]

/-- QUIET_ITER's lines with both flags 0: the paused path through SIL, and back to TOP without a flash (R182). -/
theorem effects_quietIter (hplay : s.play = false) (hflash : s.flash = false) :
    effects Pseudo.quietIter.expand s =
      { s with
        tone := some 0#12, events := s.events ++ [.readPlay false, .tone 0#12, .readFlash false], lpc := .top } := by
  simp [Pseudo.expand, effects, effect, hplay, hflash, readPlayNext, readFlashNext, State.setEvents, State.setTone,
    State.setLpc, Config.silence]

/-- From TOP with the loop not preempted and `play = 0` each line of QUIET_ITER is enabled where the one before leads. -/
theorem execAll_quietIter (hs : s.started = true) (hp : s.svc = .idle) (hl : s.lpc = .top) (hplay : s.play = false) :
    execAll Pseudo.quietIter.expand s = .next (effects Pseudo.quietIter.expand s) := by
  have hread : exec .loopReadPlay s = .next (effect .loopReadPlay s) :=
    exec_loopReadPlay_next_iff.mpr ⟨hs, hp, hl, rfl⟩
  have htone (u : State) (hu : u.started = true) (hup : u.svc = .idle) (hul : u.lpc = .sil) :
      exec (.loopSetPeriod Config.silence) u = .next (effect (.loopSetPeriod Config.silence) u) :=
    exec_loopSetPeriod_next_iff.mpr ⟨hu, hup, .fchk, by simp [hul], by simp [effect, hul]⟩
  have hflash (u : State) (hu : u.started = true) (hup : u.svc = .idle) (hul : u.lpc = .fchk) :
      exec .loopReadFlash u = .next (effect .loopReadFlash u) :=
    exec_loopReadFlash_next_iff.mpr ⟨hu, hup, hul, rfl⟩
  refine execAll_cons_next_iff.mpr ⟨_, hread, execAll_cons_next_iff.mpr ⟨_, htone _ ?_ ?_ ?_,
    execAll_cons_next_iff.mpr ⟨_, hflash _ ?_ ?_ ?_, rfl⟩⟩⟩ <;> simp [effect, hs, hp, hplay, readPlayNext]

theorem Pseudo.condition_of_ne_quietIter {p : Pseudo} (hp : p ≠ .quietIter) (s : State) : p.condition s = true := by
  cases p with
  | quietIter => exact absurd rfl hp
  | _ => rfl

theorem Pseudo.opsOf_of_spelledBy {p : Pseudo} {ops : List Instr} (h : p.spelledBy ops = true) :
    opsOf p.agent ops = p.expand := by
  simp only [Pseudo.spelledBy, Bool.and_eq_true, beq_iff_eq] at h
  exact h.2

/-- Settles O57: the condition is the flags', the lines complete from TOP, and switch changes between them commute with the
loop's updates. -/
theorem quietIterationIsOneWholeIteration : Obligations.QuietIterationIsOneWholeIteration := by
  refine ⟨fun ops s hflags => ?_, fun s hs hp hl hplay hflash => ?_, fun ops s t hs ha h => ?_,
    fun p ops s hp hsp => ?_⟩
  · rw [← Pseudo.condition_quietIter_iff, Bool.not_eq_true] at hflags
    simp [Pseudo.perform, hflags]
  · rw [← effects_quietIter hplay hflash]
    exact Pseudo.perform_next_iff.mpr
      ⟨Pseudo.condition_quietIter_iff.mpr ⟨hplay, hflash⟩, by decide, execAll_quietIter hs hp hl hplay⟩
  · obtain ⟨hc, hsp, hrun⟩ := Pseudo.perform_next_iff.mp h
    obtain ⟨hplay, hflash⟩ := Pseudo.condition_quietIter_iff.mp hc
    have ht := eq_effects_of_no_seq hs ha hrun
    rw [show opsOf .loop ops = _ from Pseudo.opsOf_of_spelledBy hsp, effects_quietIter hplay hflash] at ht
    exact ht
  · simp [Pseudo.perform, Pseudo.condition_of_ne_quietIter hp, hsp]

end Sys2Proof.Machine
end

section
/-!
PROOFS. PIN_SET (R100 to R106): what it writes bit by bit, and that level changes of two pins commute.
-/

namespace Sys2Proof.Machine

variable {s : State} {n m : Pin} {v w : Bool}

/-- Two per-pin vectors with the same bit at every pin are the same. -/
theorem eq_of_pinBit_eq {a b : Pins} (h : ∀ k, pinBit a k = pinBit b k) : a = b :=
  BitVec.eq_of_getLsbD_eq fun k hk => h ⟨k, hk⟩

theorem pinBit_setPinBit_of_ne (h : m ≠ n) (a : Pins) (b : Bool) : pinBit (setPinBit a n b) m = pinBit a m := by
  rw [pinBit_setPinBit, if_neg h]

/-- Writes of two different bits commute. -/
theorem setPinBit_comm (h : n ≠ m) (a : Pins) (b c : Bool) :
    setPinBit (setPinBit a n b) m c = setPinBit (setPinBit a m c) n b := by
  refine eq_of_pinBit_eq fun k => ?_
  by_cases hk : k = n
  · subst hk
    simp [pinBit_setPinBit, h]
  · simp [pinBit_setPinBit, hk]

theorem armedEdge_iff {sense old : Bool} :
    armedEdge sense old v = true ↔
      (old = true ∧ v = false ∧ sense = true) ∨ (old = false ∧ v = true ∧ sense = false) := by
  simp [armedEdge, and_assoc]

/-- The latch writes one bit: the flag stays where it was set and is set by an edge in the armed direction (R101). -/
theorem State.latchedPend_eq_setPinBit (s : State) (n : Pin) (v : Bool) :
    s.latchedPend n v =
      setPinBit s.pend n (armedEdge (pinBit s.sense n) (pinBit s.lvl n) v || pinBit s.pend n) := by
  cases h : armedEdge (pinBit s.sense n) (pinBit s.lvl n) v <;> simp [State.latchedPend, h, setPinBit_pinBit_self]

theorem State.pinBit_latchedPend (s : State) (n m : Pin) (v : Bool) :
    pinBit (s.latchedPend n v) m =
      if m = n ∧ armedEdge (pinBit s.sense n) (pinBit s.lvl n) v = true then true else pinBit s.pend m := by
  by_cases h : armedEdge (pinBit s.sense n) (pinBit s.lvl n) v = true <;> simp [State.latchedPend, h, pinBit_setPinBit]

/-- PIN_SET completes in every state after RESET (R100). -/
theorem exec_pinSet_of_started (hs : s.started = true) (n : Pin) (v : Bool) :
    exec (.pinSet n v) s = .next (s.drivePin n v) :=
  exec_pinSet_next_iff.mpr ⟨hs, rfl⟩

theorem execAll_pinSet_pinSet (hs : s.started = true) (n m : Pin) (v w : Bool) :
    execAll [.pinSet n v, .pinSet m w] s = .next ((s.drivePin n v).drivePin m w) :=
  execAll_cons_next_iff.mpr ⟨_, exec_pinSet_of_started hs n v,
    execAll_cons_next_iff.mpr ⟨_, exec_pinSet_of_started (by simp [hs]) m w, rfl⟩⟩

/-- After another pin was driven the latch of pin `m` sees the same edge, and writes its bit beside the other's (R104). -/
theorem State.latchedPend_drivePin_of_ne (h : n ≠ m) :
    (s.drivePin n v).latchedPend m w =
      setPinBit (s.latchedPend n v) m (armedEdge (pinBit s.sense m) (pinBit s.lvl m) w || pinBit s.pend m) := by
  rw [State.latchedPend_eq_setPinBit (s.drivePin n v), State.drivePin_eq, State.latchedPend_eq_setPinBit s]
  simp [pinBit_setPinBit_of_ne h.symm]

/-- The levels and the flags of two different pins are written independently. -/
theorem State.drivePin_comm (h : n ≠ m) : (s.drivePin n v).drivePin m w = (s.drivePin m w).drivePin n v := by
  have hlvl := setPinBit_comm h s.lvl v w
  have hpend : (s.drivePin n v).latchedPend m w = (s.drivePin m w).latchedPend n v := by
    rw [State.latchedPend_drivePin_of_ne h, State.latchedPend_drivePin_of_ne h.symm,
      State.latchedPend_eq_setPinBit s n, State.latchedPend_eq_setPinBit s m, setPinBit_comm h]
  rw [State.drivePin_eq (s.drivePin n v), State.drivePin_eq (s.drivePin m w), hpend]
  simp only [State.drivePin_eq, State.setPend_lvl, State.setLvl_lvl, hlvl]
  rfl

/-- Settles O15: both orders complete, and driving one pin commutes with driving another. -/
theorem pinSetsOfTwoPinsCommute : Obligations.PinSetsOfTwoPinsCommute := by
  intro n m v w s hne hs
  refine ⟨_, execAll_pinSet_pinSet hs n m v w, ?_⟩
  rw [execAll_pinSet_pinSet hs m n w v, State.drivePin_comm hne]

/-- Settles O14: PIN_SET writes one bit of `lvl` and, on an armed edge, the same bit of `pend`. -/
theorem pinSetDrivesAndLatches : Obligations.PinSetDrivesAndLatches := by
  refine ⟨fun n v => rfl, fun n v s hs => ⟨_, exec_pinSet_of_started hs n v, fun m => ?_, fun m => ?_, ?_⟩⟩
  · simp [pinBit_setPinBit]
  · simp only [State.drivePin_eq, State.setPend_pend, State.pinBit_latchedPend, armedEdge_iff]
  · rw [State.drivePin_eq]
    rfl

end Sys2Proof.Machine
end

section
/-!
PROOFS. The nine steps of a service one by one (R121 to R129): each completes at its position and is not enabled elsewhere.
-/

namespace Sys2Proof.Machine

variable {s : State}

theorem State.seqAt_of_svc_ne {p : SvcPos} (hp : s.svc ≠ p) : s.seqAt p = false := by
  simp [State.seqAt, hp]

/-- A guard equivalent to a condition lets the step through exactly where the condition holds (R11). -/
theorem guarded_of_iff {c : Bool} {P : Prop} (h : c = true ↔ P) (k : Result) :
    (P → guarded c k = k) ∧ (¬ P → guarded c k = .refused .notEnabled) := by
  cases c <;> simp [← h]

/-- `(q AND ~a) = 0` says that every bit of `q` is set in `a` (R124). -/
theorem andNot_eq_zero_iff {q a : Pins} : q &&& ~~~a = 0b0000#4 ↔ ∀ n, pinBit q n = true → pinBit a n = true := by
  revert q a
  decide

/-- `(a AND q) = q` says that every bit of `q` is set in `a` (R122). -/
theorem and_eq_right_iff {q a : Pins} : a &&& q = q ↔ ∀ n, pinBit q n = true → pinBit a n = true := by
  revert q a
  decide

theorem rearmOk_iff {p : SenseWritePending} {q sense snap lvl : Pins} :
    rearmOk p q sense snap lvl = true ↔ ∀ n, pinBit q n = true → pinBit (rearmAllowed p sense snap lvl) n = true := by
  rw [rearmOk, beq_iff_eq, andNot_eq_zero_iff]

theorem pinBit_zero (n : Pin) : pinBit 0b0000#4 n = false := by
  revert n
  decide

theorem pinBit_ones (n : Pin) : pinBit 0b1111#4 n = true := by
  revert n
  decide

/-- At CLR with the observed flags set, the mask's constraint is the one guard left (R122). -/
theorem exec_svcClear_at_clr (hs : s.started = true) (hp : s.svc = .clr) {v : Pins} (hv : s.seen = some v) (m : Pins) :
    exec (.svcClear m) s = guarded (clearOk s.cfg.clearScope m v) (.next ((s.clearPend m).setSvc .snap)) := by
  simp [exec, execSvcClear, State.seqAt_iff.mpr ⟨hs, hp⟩, hv]

/-- At REARM with the snapshot taken, the draw's constraint is the one guard left (R124). -/
theorem exec_svcRearm_at_rearm (hs : s.started = true) (hp : s.svc = .rearm) {v : Pins} (hv : s.snap = some v)
    (q : Pins) :
    exec (.svcRearm q) s =
      guarded (rearmOk s.cfg.senseWritePending q s.sense v s.lvl) (.next (((s.setSense v).raisePend q).setSvc .b1)) := by
  simp [exec, execSvcRearm, State.seqAt_iff.mpr ⟨hs, hp⟩, hv]

section ButtonStep
variable {p after : SvcPos} {n : Pin} {update : State → State}

theorem buttonStep_of_svc_ne (hp : s.svc ≠ p) : buttonStep p n update after s = .refused .notEnabled := by
  simp [buttonStep, State.seqAt_of_svc_ne hp]

variable {v : Pins} (hs : s.started = true) (hp : s.svc = p) (hv : s.snap = some v)
include hs hp hv

/-- A button step whose snapshot bit is low makes its update and moves on (R130). -/
theorem buttonStep_of_pressed (hb : pinBit v n = false) :
    buttonStep p n update after s = .next ((update s).setSvc after) :=
  buttonStep_next_iff.mpr ⟨hs, hp, v, hv, by simp [hb]⟩

/-- A button step whose snapshot bit is high moves on and does nothing else (R130). -/
theorem buttonStep_of_released (hb : pinBit v n = true) : buttonStep p n update after s = .next (s.setSvc after) :=
  buttonStep_next_iff.mpr ⟨hs, hp, v, hv, by simp [hb]⟩

end ButtonStep

/-- What a button step does at its position, by its snapshot bit, and elsewhere (R130). -/
theorem buttonStep_spec (p : SvcPos) (n : Pin) (update : State → State) (after : SvcPos) :
    (∀ (v : Pins) (s : State), s.started = true → s.svc = p → s.snap = some v →
      (pinBit v n = false → buttonStep p n update after s = .next ((update s).setSvc after)) ∧
      (pinBit v n = true → buttonStep p n update after s = .next (s.setSvc after))) ∧
    (∀ s : State, s.svc ≠ p → buttonStep p n update after s = .refused .notEnabled) :=
  ⟨fun _ _ hs hp hv => ⟨buttonStep_of_pressed hs hp hv, buttonStep_of_released hs hp hv⟩, fun _ => buttonStep_of_svc_ne⟩

/-- Settles O16: the guard is the request, and the effect is service entry's. -/
theorem serviceEntryOnRequest : Obligations.ServiceEntryOnRequest := by
  refine ⟨rfl, fun s hs hg hf hi => exec_svcEnter_next_iff.mpr ⟨hs, State.req_iff.mpr ⟨hg, hf, hi⟩, rfl⟩,
    fun s hn => ?_, fun s => State.req_iff⟩
  have hr : s.req = false := Bool.eq_false_iff.mpr fun h => hn (State.req_iff.mp h)
  simp [exec, execSvcEnter, hr]

/-- Settles O17: at CLR only the mask's constraint is left, and it reads as stated for each `CLEAR_SCOPE`. -/
theorem serviceClearWithinItsScope : Obligations.ServiceClearWithinItsScope := by
  refine ⟨fun m => rfl, fun m v s hs hp hv => ?_, fun m s hp => ?_⟩
  · rw [exec_svcClear_at_clr hs hp hv]
    cases hc : s.cfg.clearScope with
    | group => exact guarded_of_iff beq_iff_eq _
    | observed => exact guarded_of_iff beq_iff_eq _
    | either => exact guarded_of_iff (beq_iff_eq.trans and_eq_right_iff) _
  · simp [exec, execSvcClear, State.seqAt_of_svc_ne hp]

/-- Settles O18: the position is the whole guard. -/
theorem snapshotTakesAllLevels : Obligations.SnapshotTakesAllLevels :=
  ⟨rfl, fun s hs hp => exec_svcSnap_next_iff.mpr ⟨hs, hp, rfl⟩,
    fun s hp => by simp [exec, execSvcSnap, State.seqAt_of_svc_ne hp]⟩

/-- Settles O19: at REARM only the draw's constraint is left, and bit by bit it reads as stated for each
`SENSE_WRITE_PENDING`. -/
theorem rearmFromSnapshot : Obligations.RearmFromSnapshot := by
  refine ⟨fun q => rfl, fun q v s hs hp hv => ?_, fun q s hp => ?_⟩
  · rw [exec_svcRearm_at_rearm hs hp hv]
    refine guarded_of_iff (rearmOk_iff.trans (forall_congr' fun n => imp_congr_right fun _ => ?_)) _
    cases hc : s.cfg.senseWritePending with
    | never => simp [rearmAllowed, pinBit_zero]
    | may => simp [pinBit_rearmAllowed_may]
    | any => simp [pinBit_rearmAllowed_any]
  · simp [exec, execSvcRearm, State.seqAt_of_svc_ne hp]

/-- Settles O20: a button step whose update inverts `play` with its event. -/
theorem button1InvertsPlay : Obligations.Button1InvertsPlay :=
  ⟨rfl, buttonStep_spec .b1 0 State.invertPlay .b2⟩

/-- Settles O21: a button step whose update is the LED primitive on Green. -/
theorem button2InvertsGreen : Obligations.Button2InvertsGreen :=
  ⟨rfl, buttonStep_spec .b2 1 (fun t => t.ledXor 0b10#2) .b3⟩

/-- Settles O22: a button step whose update is the LED primitive on Red. -/
theorem button3InvertsRed : Obligations.Button3InvertsRed :=
  ⟨rfl, buttonStep_spec .b3 2 (fun t => t.ledXor 0b01#2) .b4⟩

/-- Settles O23: the pressed case splits on `flash`, which says whether the LEDs are cleared too. -/
theorem button4TogglesFlash : Obligations.Button4TogglesFlash := by
  refine ⟨rfl, fun v s hs hp hv => ⟨fun hb hf => ?_, fun hb hf => ?_, buttonStep_of_released hs hp hv⟩,
    fun _ => buttonStep_of_svc_ne⟩
  all_goals
    refine (buttonStep_of_pressed hs hp hv hb).trans ?_
    simp [hf]
    rfl

/-- Settles O24: the position is the whole guard. -/
theorem serviceExitReturns : Obligations.ServiceExitReturns :=
  ⟨rfl, fun s hs hp => exec_svcExit_next_iff.mpr ⟨hs, hp, rfl⟩,
    fun s hp => by simp [exec, execSvcExit, State.seqAt_of_svc_ne hp]⟩

end Sys2Proof.Machine
end

section
/-!
PROOFS. A whole service (R120, R130 to R136): apart from the fields PIN_SET and SVC_ENTER write, it makes the updates of its
nine steps, so its effects are those its snapshot decides.
-/

namespace Sys2Proof.Machine

variable {s t u : State} {i : Instr} {ops : List Instr} {v : Pins}

/-- What is left of a state without its levels, pending flags and observed flags. -/
def State.sansInputs (s : State) : State := (s.withPins 0b0000#4 0b0000#4).setSeen none

section Buttons
variable (s : State)

/-! Each button step as unconditional updates, for a button that shows pressed or released (R125 to R128). -/

theorem effect_svcBtn1 :
    effect .svcBtn1 s =
      ((s.setPlay (s.play ^^ !s.released 0)).setEvents (s.events ++ emits .svcBtn1 s)).setSvc .b2 := by
  cases h : s.released 0 with
  | true => simp [effect, emits, h]; rfl
  | false => simp [effect, emits, h]

theorem effect_svcBtn2 :
    effect .svcBtn2 s =
      ((s.setLed (s.led ^^^ if s.released 1 = false then 0b10#2 else 0b00#2)).setEvents
        (s.events ++ emits .svcBtn2 s)).setSvc .b3 := by
  cases h : s.released 1 with
  | true => simp [effect, emits, h]; rfl
  | false => simp [effect, emits, h]

theorem effect_svcBtn3 :
    effect .svcBtn3 s =
      ((s.setLed (s.led ^^^ if s.released 2 = false then 0b01#2 else 0b00#2)).setEvents
        (s.events ++ emits .svcBtn3 s)).setSvc .b4 := by
  cases h : s.released 2 with
  | true => simp [effect, emits, h]; rfl
  | false => simp [effect, emits, h]

theorem effect_svcBtn4 :
    effect .svcBtn4 s =
      (((s.setFlash (s.flash ^^ !s.released 3)).setLed
          (if s.released 3 = false ∧ s.flash = true then 0b00#2 else s.led)).setEvents
        (s.events ++ emits .svcBtn4 s)).setSvc .exit := by
  cases h : s.released 3 with
  | true => simp [effect, emits, h]; rfl
  | false => simp [effect, emits, h]

end Buttons

/-- But for SVC_SNAP, no operation of the sequencer or the loop carries a hidden field into another. -/
theorem effect_sansInputs (ha : i.agent ≠ .env) (hi : i ≠ .svcSnap) (s : State) :
    (effect i s.sansInputs).sansInputs = (effect i s).sansInputs := by
  cases i with
  | reset | pinSet => exact absurd rfl ha
  | svcSnap => exact absurd rfl hi
  | svcBtn1 => simp only [effect_svcBtn1]; rfl
  | svcBtn2 => simp only [effect_svcBtn2]; rfl
  | svcBtn3 => simp only [effect_svcBtn3]; rfl
  | svcBtn4 => simp only [effect_svcBtn4]; rfl
  | _ => rfl

theorem effects_sansInputs (ha : ∀ i ∈ ops, i.agent ≠ .env) (hi : .svcSnap ∉ ops) (s : State) :
    (effects ops s.sansInputs).sansInputs = (effects ops s).sansInputs := by
  induction ops generalizing s with
  | nil => rfl
  | cons i is ih =>
    obtain ⟨ha, has⟩ := List.forall_mem_cons.mp ha
    obtain ⟨hi, his⟩ := List.ne_and_not_mem_of_not_mem_cons hi
    rw [effects, effects, ← ih has his, effect_sansInputs ha hi.symm, ih has his]

theorem withoutEnv_cons_of_env (ha : i.agent = .env) (is : List Instr) : withoutEnv (i :: is) = withoutEnv is := by
  simp [withoutEnv, ha]

theorem withoutEnv_cons_of_not_env (ha : i.agent ≠ .env) (is : List Instr) :
    withoutEnv (i :: is) = i :: withoutEnv is := by
  simp [withoutEnv, ha]

theorem agent_ne_env_of_mem_withoutEnv : ∀ i ∈ withoutEnv ops, i.agent ≠ .env := by
  simp [withoutEnv]

/-- No step after RESET takes `started` back (R231). -/
theorem started_of_execAll (hs : s.started = true) (h : execAll ops s = .next t) : t.started = true := by
  induction ops generalizing s with
  | nil => cases h; exact hs
  | cons i is ih =>
    obtain ⟨u, hu, hrest⟩ := execAll_cons_next_iff.mp h
    exact ih (eq_effect_of_exec hu ▸ effect_started i s hs) hrest

/-- Switch changes between the steps of a run leave what its other operations make, the hidden fields aside. -/
theorem sansInputs_of_execAll (hs : s.started = true) (hi : .svcSnap ∉ withoutEnv ops) (h : execAll ops s = .next t) :
    t.sansInputs = (effects (withoutEnv ops) s).sansInputs := by
  induction ops generalizing s with
  | nil => cases h; rfl
  | cons i is ih =>
    obtain ⟨u, hu, hrest⟩ := execAll_cons_next_iff.mp h
    have hue := eq_effect_of_exec hu
    have hus : u.started = true := hue ▸ effect_started i s hs
    by_cases ha : i.agent = .env
    · rw [withoutEnv_cons_of_env ha] at hi ⊢
      obtain ⟨l, p, rfl⟩ := exec_env_eq_withPins hs ha hu
      rw [ih hus hi hrest, ← effects_sansInputs agent_ne_env_of_mem_withoutEnv hi (s.withPins l p),
        ← effects_sansInputs agent_ne_env_of_mem_withoutEnv hi s]
      rfl
    · rw [withoutEnv_cons_of_not_env ha] at hi ⊢
      rw [ih hus (List.not_mem_of_not_mem_cons hi) hrest, effects, hue]

/-- What a whole service from `s` with the snapshot `v` has done in `t` (R120, R130, R134): the snapshot arms the pins and
decides the four effects; the other fields named here keep their values. -/
structure Serviced (s : State) (v : Pins) (t : State) : Prop where
  started : t.started = s.started
  snap : t.snap = some v
  sense : t.sense = v
  svc : t.svc = .idle
  play : t.play = (s.play ^^ !pinBit v 0)
  flash : t.flash = (s.flash ^^ !pinBit v 3)
  led : t.led =
    (if pinBit v 3 = false ∧ s.flash = true then 0b00#2
      else s.led ^^^ (if pinBit v 1 = false then 0b10#2 else 0b00#2) ^^^ (if pinBit v 2 = false then 0b01#2 else 0b00#2))
  gie : t.gie = s.gie
  ie : t.ie = s.ie
  ledOe : t.ledOe = s.ledOe
  lpc : t.lpc = s.lpc
  tone : t.tone = s.tone
  cfg : t.cfg = s.cfg

/-- What a service has done is no matter of the hidden fields. -/
theorem serviced_sansInputs_iff : Serviced s.sansInputs v t.sansInputs ↔ Serviced s v t :=
  ⟨fun h => { h with }, fun h => { h with }⟩

/-- The updates of the steps from SVC_SNAP on: no later step writes the snapshot, and each button step reads its own bit. -/
theorem serviced_effects (u : State) (q : Pins) :
    Serviced u u.lvl
      (effects [.svcSnap, .svcRearm q, .svcBtn1, .svcBtn2, .svcBtn3, .svcBtn4, .svcExit] u) := by
  simp only [effects, effect_svcBtn1, effect_svcBtn2, effect_svcBtn3, effect_svcBtn4]
  constructor <;> simp [effect, State.released]

/-- A whole service has done what its snapshot decides, whatever the switches did meanwhile. -/
theorem ServiceRun.serviced (hs : s.started = true) (h : ServiceRun s u t) : Serviced s u.lvl t := by
  obtain ⟨pre, post, m, q, hpre, hpost, hu, ht⟩ := h
  obtain ⟨w, hw, ht⟩ := execAll_cons_next_iff.mp ht
  have hws : w.started = true := eq_effect_of_exec hw ▸ effect_started _ u (started_of_execAll hs hu)
  have hu := sansInputs_of_execAll hs (by simp [hpre]) hu
  have ht := sansInputs_of_execAll hws (by simp [hpost]) ht
  rw [hpre] at hu
  rw [hpost, eq_effect_of_exec hw] at ht
  have hd : Serviced u.sansInputs u.lvl t.sansInputs := ht ▸ serviced_sansInputs_iff.mpr (serviced_effects u q)
  rw [hu] at hd
  -- SVC_ENTER and SVC_CLEAR write nothing but hidden fields and the position, which `Serviced` does not read in `s`.
  exact { serviced_sansInputs_iff.mp hd with }

/-- Settles O48: every clause is one of what a service has done. -/
theorem serviceAppliesItsSnapshot : Obligations.ServiceAppliesItsSnapshot := fun _ _ _ hs h =>
  have d := h.serviced hs
  ⟨d.snap, d.sense, d.svc, d.play, d.flash, d.led, d.gie, d.ie, d.ledOe, d.lpc, d.tone, d.cfg⟩

/-- Switch changes alone, after RESET, leave every field but the hidden ones. -/
theorem sansInputs_of_env (hs : s.started = true) (ha : ∀ i ∈ ops, i.agent = .env) (h : execAll ops s = .next t) :
    t.sansInputs = s.sansInputs := by
  have hnil : withoutEnv ops = [] := by simpa [withoutEnv] using ha
  have ht := sansInputs_of_execAll hs (by simp [hnil]) h
  rwa [hnil] at ht

/-- With every button released in its snapshot a service changes neither mode flag and no LED. -/
theorem Serviced.of_released (h : Serviced s 0b1111#4 t) : t.play = s.play ∧ t.flash = s.flash ∧ t.led = s.led := by
  simp [h.play, h.flash, h.led, pinBit_ones]

/-- With one pin low in its snapshot a service changes that button's field, and the LEDs too where it stops `flash`
(R136). -/
theorem Serviced.of_one_low {n : Pin} (h : Serviced s v t) (hv : ∀ k, pinBit v k = (k != n)) :
    t.play = (s.play ^^ decide (n = 0)) ∧ t.flash = (s.flash ^^ decide (n = 3)) ∧
      t.led = (if n = 1 then s.led ^^^ 0b10#2 else if n = 2 then s.led ^^^ 0b01#2
        else if n = 3 ∧ s.flash = true then 0b00#2 else s.led) := by
  rw [h.play, h.flash, h.led, hv, hv, hv, hv]
  fin_cases n <;> simp

/-- Settles O49: switch changes between the two services keep the three fields, and each change undoes itself. -/
theorem oneLowPinTogglesOneFieldAndTwiceRestores : Obligations.OneLowPinTogglesOneFieldAndTwiceRestores := by
  intro n env s u t s' u' t' hs hu hu' ha hrun henv hrun'
  have h := hrun.serviced hs
  have hts : t.started = true := h.started.trans hs
  have h' := hrun'.serviced (started_of_execAll hts henv)
  have hagain : Serviced t u'.lvl t' := by
    rwa [← serviced_sansInputs_iff, sansInputs_of_env hts ha henv, serviced_sansInputs_iff] at h'
  obtain ⟨hp, hf, hl⟩ := h.of_one_low hu
  obtain ⟨hp', hf', hl'⟩ := hagain.of_one_low hu'
  refine ⟨?_, ?_, ?_, ?_⟩ <;> rintro rfl <;> simp [hp, hf, hl, hp', hf', hl']

end Sys2Proof.Machine
end

section
/-!
PROOFS. A press or a release and its service without other steps between (R88, R133): the service completes, and the pin is
armed for the opposite edge.
-/

namespace Sys2Proof.Machine

variable {s t u : State} {i : Instr} {ops : List Instr} {m v : Pins} {n : Pin}

/-- An admitted mask clears every observed flag, whatever `CLEAR_SCOPE` is (R122). -/
theorem andNot_eq_zero_of_clearOk {scope : ClearScope} (h : clearOk scope m v = true) : v &&& ~~~m = 0b0000#4 := by
  cases scope with
  | group => obtain rfl := beq_iff_eq.mp h; simp
  | observed => obtain rfl := beq_iff_eq.mp h; simp
  | either => exact andNot_eq_zero_iff.mpr (and_eq_right_iff.mp (beq_iff_eq.mp h))

theorem eq_effects_of_execAll (h : execAll ops s = .next t) : t = effects ops s := by
  induction ops generalizing s with
  | nil => cases h; rfl
  | cons i is ih =>
    obtain ⟨u, hu, hrest⟩ := execAll_cons_next_iff.mp h
    rw [effects, ← eq_effect_of_exec hu, ih hrest]

/-- A run that begins with the scheduled operation completes if it can go on from where that operation leads. -/
theorem CanGoOn.execAll_cons (h : CanGoOn s) (hi : scheduled s = i)
    (hrest : ∀ u, CanGoOn u → u.svc = svcAfter i s.svc → ∃ t, execAll ops u = .next t) :
    ∃ t, execAll (i :: ops) s = .next t := by
  obtain ⟨u, hu, hgo⟩ := exec_scheduled h
  rw [hi] at hu
  obtain ⟨t, ht⟩ := hrest u hgo (by rw [eq_effect_of_exec hu, effect_svc])
  exact ⟨t, execAll_cons_next_iff.mpr ⟨u, hu, ht⟩⟩

/-- From SNAP the steps up to SVC_EXIT complete one after another (R120). -/
theorem CanGoOn.execAll_from_snap (h : CanGoOn s) (hp : s.svc = .snap) :
    ∃ t, execAll [.svcSnap, .svcRearm 0b0000#4, .svcBtn1, .svcBtn2, .svcBtn3, .svcBtn4, .svcExit] s = .next t := by
  refine h.execAll_cons (by simp [scheduled, hp]) fun u h hp => ?_
  refine h.execAll_cons (by simp [scheduled, hp, svcAfter]) fun u h hp => ?_
  refine h.execAll_cons (by simp [scheduled, hp, svcAfter]) fun u h hp => ?_
  refine h.execAll_cons (by simp [scheduled, hp, svcAfter]) fun u h hp => ?_
  refine h.execAll_cons (by simp [scheduled, hp, svcAfter]) fun u h hp => ?_
  refine h.execAll_cons (by simp [scheduled, hp, svcAfter]) fun u h hp => ?_
  exact h.execAll_cons (by simp [scheduled, hp, svcAfter]) fun u _ _ => ⟨u, rfl⟩

/-- The updates of a service without spurious flags leave the levels and clear the mask's flags (R122, R124). -/
theorem effects_service_pins (s : State) (m : Pins) :
    (effects (Pseudo.service m 0b0000#4).expand s).lvl = s.lvl ∧
      (effects (Pseudo.service m 0b0000#4).expand s).pend = s.pend &&& ~~~m := by
  simp only [Pseudo.expand, effects, effect_svcBtn1, effect_svcBtn2, effect_svcBtn3, effect_svcBtn4]
  simp [effect]

/-- A requested service with an admitted mask completes, and applies the levels it finds (R120, R201). -/
theorem execAll_service (hs : s.started = true) (hr : s.req = true)
    (hm : clearOk s.cfg.clearScope m (s.pend &&& s.ie) = true) :
    ∃ t, execAll (Pseudo.service m 0b0000#4).expand s = .next t ∧ Serviced s s.lvl t ∧
      t.lvl = s.lvl ∧ t.pend = s.pend &&& ~~~m := by
  have hpre : execAll [.svcEnter, .svcClear m] s = .next ((s.enterService.clearPend m).setSvc .snap) :=
    execAll_cons_next_iff.mpr ⟨_, exec_svcEnter_next_iff.mpr ⟨hs, hr, rfl⟩,
      execAll_cons_next_iff.mpr ⟨_, exec_svcClear_next_iff.mpr ⟨hs, rfl, _, rfl, hm, rfl⟩, rfl⟩⟩
  obtain ⟨t, hpost⟩ := CanGoOn.execAll_from_snap (s := (s.enterService.clearPend m).setSvc .snap)
    ⟨hs, fun hp => by simp at hp, fun hc => by simp [SvcPos.code] at hc⟩ rfl
  have hall : execAll (Pseudo.service m 0b0000#4).expand s = .next t := execAll_append_next_iff.mpr ⟨_, hpre, hpost⟩
  have hd := ServiceRun.serviced hs ⟨_, _, m, 0b0000#4, rfl, rfl, hpre, hpost⟩
  exact ⟨t, hall, hd, eq_effects_of_execAll hall ▸ effects_service_pins s m⟩

theorem setPinBit_zero_true_ne_zero (n : Pin) : setPinBit 0b0000#4 n true ≠ 0b0000#4 := by
  revert n
  decide

/-- The levels with one button pressed: its pin alone is low. -/
theorem pinBit_one_low (n k : Pin) : pinBit (setPinBit 0b1111#4 n false) k = (k != n) := by
  rw [pinBit_setPinBit, pinBit_ones]
  by_cases h : k = n <;> simp [h]

/-- Releasing the one pressed button. -/
theorem setPinBit_one_low_true (n : Pin) : setPinBit (setPinBit 0b1111#4 n false) n true = 0b1111#4 := by
  revert n
  decide

/-- Past boot, at levels `v` with every pin armed for the edge away from its level, nothing pending, no service running. -/
structure AtRest (s : State) (v : Pins) : Prop where
  started : s.started = true
  svc : s.svc = .idle
  gie : s.gie = true
  ie : s.ie = 0b1111#4
  lvl : s.lvl = v
  sense : s.sense = v
  pend : s.pend = 0b0000#4

theorem AtRest.req_eq_false (h : AtRest s v) : s.req = false := by
  simp [State.req, h.pend]

/-- At rest every change of a level is latched: each pin is armed by its own level (R101, R106). -/
theorem AtRest.latchedPend (h : AtRest s v) (n : Pin) :
    s.latchedPend n (!pinBit v n) = setPinBit 0b0000#4 n true := by
  have hedge : armedEdge (pinBit v n) (pinBit v n) (!pinBit v n) = true := by cases pinBit v n <;> rfl
  simp [State.latchedPend, h.sense, h.lvl, h.pend, hedge]

/-- A change of one pin at rest and its service complete and lead to rest at the new levels, whose effects they apply. -/
theorem AtRest.execAll_change_service (h : AtRest s v) (n : Pin)
    (hm : clearOk s.cfg.clearScope m (setPinBit 0b0000#4 n true) = true) :
    ∃ t, execAll (.pinSet n (!pinBit v n) :: (Pseudo.service m 0b0000#4).expand) s = .next t ∧
      AtRest t (setPinBit v n (!pinBit v n)) ∧ Serviced s (setPinBit v n (!pinBit v n)) t := by
  have hpend : (s.drivePin n (!pinBit v n)).pend = setPinBit 0b0000#4 n true := by simp [h.latchedPend]
  have hlvl : (s.drivePin n (!pinBit v n)).lvl = setPinBit v n (!pinBit v n) := by simp [h.lvl]
  have hflag : setPinBit 0b0000#4 n true &&& 0b1111#4 = setPinBit 0b0000#4 n true := BitVec.and_allOnes
  have hreq : (s.drivePin n (!pinBit v n)).req = true :=
    State.req_iff.mpr ⟨by simp [h.gie], by rw [hpend]; simpa [h.ie, hflag] using setPinBit_zero_true_ne_zero n,
      by simp [h.svc]⟩
  obtain ⟨t, ht, hd, htl, htp⟩ := execAll_service (m := m) (by simp [h.started]) hreq
    (by rw [hpend]; simpa [h.ie, hflag] using hm)
  have hst : Serviced s (setPinBit v n (!pinBit v n)) t := by
    rw [hlvl, State.drivePin_eq] at hd
    exact { hd with }
  refine ⟨t, execAll_cons_next_iff.mpr ⟨_, exec_pinSet_of_started h.started n _, ht⟩, ?_, hst⟩
  exact
    { started := hst.started.trans h.started
      svc := hst.svc
      gie := hst.gie.trans h.gie
      ie := hst.ie.trans h.ie
      lvl := htl.trans hlvl
      sense := hst.sense
      pend := by rw [htp, hpend, andNot_eq_zero_of_clearOk hm] }

/-- Settles O50: the press leaves rest at levels low at that pin alone, and the release leads back from there. -/
theorem cleanPressAndReleaseTogglesOnce : Obligations.CleanPressAndReleaseTogglesOnce := by
  intro n m m' s hs hp hg hie hl hse hpd hm hm'
  obtain ⟨u, hu, hurest, hud⟩ := (AtRest.mk hs hp hg hie hl hse hpd).execAll_change_service n hm
  obtain ⟨t, ht, htrest, htd⟩ := hurest.execAll_change_service n (m := m') (by rwa [hud.cfg])
  simp only [pinBit_ones, pinBit_one_low, bne_self_eq_false, Bool.not_true, Bool.not_false, setPinBit_one_low_true]
    at hu hud ht htrest htd
  obtain ⟨hplay, hflash, hled⟩ := htd.of_released
  obtain ⟨huplay, huflash, huled⟩ := hud.of_one_low (pinBit_one_low n)
  refine ⟨t, ?_, htrest.lvl, htrest.sense, htrest.pend, htrest.req_eq_false, hplay.trans huplay, hflash.trans huflash,
    hled.trans huled⟩
  rw [List.append_assoc]
  exact execAll_append_next_iff.mpr ⟨u, hu, ht⟩

end Sys2Proof.Machine
end

section
/-!
PROOFS. The writes of the LED register (R150 to R155): `ledWriteOf` names the one primitive an operation performs, and the
register holds what the primitives of a run make of its first value.
-/

namespace Sys2Proof.Machine

variable {s t : State} {i : Instr} {ops : List Instr}

/-- The operations that perform a primitive, each with its own (R154). -/
theorem cases_of_ledWriteOf {w : LedWrite} (h : ledWriteOf i s = some w) :
    (i = .svcBtn2 ∧ w = .xor 0b10#2) ∨ (i = .svcBtn3 ∧ w = .xor 0b01#2) ∨
      (i = .svcBtn4 ∧ s.released 3 = false ∧ s.flash = true ∧ w = .clr 0b11#2) ∨
      ∃ m, i = .loopFlashTgl m ∧ w = .xor m := by
  cases i with
  | svcBtn2 | svcBtn3 | loopFlashTgl => simp_all [ledWriteOf]
  | svcBtn4 => cases hv : s.snap <;> simp_all [ledWriteOf, State.released]
  | _ => simp [ledWriteOf] at h

/-- An operation after RESET leaves in `led` what its primitive, if it performs one, makes of the value there. -/
theorem led_of_exec (hs : s.started = true) (h : exec i s = .next t) :
    t.led = (ledWriteOf i s).elim s.led (·.apply s.led) := by
  obtain rfl := eq_effect_of_exec h
  cases i with
  | reset r l => exact absurd rfl (ne_reset_of_exec hs h r l)
  | svcBtn2 =>
    obtain ⟨-, -, v, hv, -⟩ := exec_svcBtn2_next_iff.mp h
    cases hb : pinBit v 1 <;> simp [effect_svcBtn2, ledWriteOf, LedWrite.apply, State.released_of_snap hv, hv, hb]
  | svcBtn3 =>
    obtain ⟨-, -, v, hv, -⟩ := exec_svcBtn3_next_iff.mp h
    cases hb : pinBit v 2 <;> simp [effect_svcBtn3, ledWriteOf, LedWrite.apply, State.released_of_snap hv, hv, hb]
  | svcBtn4 =>
    obtain ⟨-, -, v, hv, -⟩ := exec_svcBtn4_next_iff.mp h
    cases hb : pinBit v 3 <;> cases hf : s.flash <;>
      simp [effect_svcBtn4, ledWriteOf, LedWrite.apply, State.released_of_snap hv, hv, hb, hf]
  | loopFlashTgl m => simp [effect, ledWriteOf, LedWrite.apply]
  | svcBtn1 => simp [effect_svcBtn1, ledWriteOf]
  | _ => simp [effect, ledWriteOf]

/-- Settles O35: a change of `led` is that of a performed primitive, and where the operation runs selects its port. -/
theorem ledWritesComeThroughOnePort : Obligations.LedWritesComeThroughOnePort := by
  intro i s t hs h hne
  have hled := led_of_exec hs h
  cases hw : ledWriteOf i s with
  | none => exact absurd (by simpa [hw] using hled) hne
  | some w =>
    rw [hw, Option.elim_some] at hled
    obtain ⟨rfl, rfl⟩ | ⟨rfl, rfl⟩ | ⟨rfl, hb, hf, rfl⟩ | ⟨m, rfl, rfl⟩ := cases_of_ledWriteOf hw
    all_goals have hp := svc_eq_of_exec h rfl
    · exact .inl ⟨by simp [State.ledPort, hp], .inl ⟨rfl, hp, hled⟩⟩
    · exact .inl ⟨by simp [State.ledPort, hp], .inr (.inl ⟨rfl, hp, hled⟩)⟩
    · have hstop : t.flash = false := by simp [eq_effect_of_exec h, effect_svcBtn4, hb, hf]
      exact .inl ⟨by simp [State.ledPort, hp], .inr (.inr ⟨rfl, hp, hf, hstop, by simp [hled, LedWrite.apply]⟩)⟩
    · exact .inr ⟨by simp [State.ledPort, hp], m, rfl, hled⟩

/-- The value after any run from a state after RESET is the composition of the primitives the run performed (R155). -/
theorem led_of_execAll (hs : s.started = true) (h : execAll ops s = .next t) :
    t.led = (ledWrites ops s).foldl (fun v w => w.apply v) s.led := by
  induction ops generalizing s with
  | nil => cases h; rfl
  | cons i is ih =>
    obtain ⟨u, hu, hrest⟩ := execAll_cons_next_iff.mp h
    have hus : u.started = true := eq_effect_of_exec hu ▸ effect_started i s hs
    rw [ih hus hrest, ledWrites_cons hu, List.foldl_append, led_of_exec hs hu]
    cases ledWriteOf i s <;> rfl

/-- Settles O59: a run from launch goes on after RESET, which performs no primitive, from its draw. -/
theorem ledIsTheCompositionOfItsWrites : Obligations.LedIsTheCompositionOfItsWrites := by
  refine ⟨fun _ _ _ => led_of_execAll, fun cfg r l ops t h => ?_⟩
  obtain ⟨u, hu, hrest⟩ := execAll_cons_next_iff.mp h
  rw [ledWrites_cons hu]
  obtain rfl := eq_effect_of_exec hu
  exact led_of_execAll rfl hrest

end Sys2Proof.Machine
end

section
/-!
PROOFS. The loop's operations one by one (R171 to R178): each completes at its position, and where its guard fails it is not
enabled.
-/

namespace Sys2Proof.Machine

variable {s t : State} {i : Instr}

/-- A guard before something that is `NotEnabled` when it has no next state is so itself (R11). -/
theorem guarded_eq_notEnabled {c : Bool} {k : Result} (hk : (∀ t, k ≠ .next t) → k = .refused .notEnabled)
    (h : ∀ t, guarded c k ≠ .next t) : guarded c k = .refused .notEnabled := by
  cases c with
  | false => rfl
  | true => exact hk h

theorem advanceLoop_eq_notEnabled {target : Option LoopPos} {k : LoopPos → State}
    (h : ∀ t, advanceLoop target k ≠ .next t) : advanceLoop target k = .refused .notEnabled := by
  cases target with
  | none => rfl
  | some p => exact absurd rfl (h (k p))

/-- The loop's operations read no field that can be `unset`: what does not complete is not enabled (R207). -/
theorem exec_loop_eq_notEnabled (ha : i.agent = .loop) (h : ∀ t, exec i s ≠ .next t) :
    exec i s = .refused .notEnabled := by
  cases i <;> cases ha
  case loopSetPeriod | loopFlashTgl | loopDelay => exact guarded_eq_notEnabled advanceLoop_eq_notEnabled h
  all_goals exact guarded_eq_notEnabled (fun hk => absurd rfl (hk _)) h

@[simp] theorem passLen_eq : Config.passLen = 16 := rfl

/-- No period of the sweep exceeds PERIOD_MAX, so each fits the 12-bit field (R171). -/
theorem per_toNat (k : Fin 32) : (per k).toNat = perNat k.val := by
  have hmax : perNat k.val ≤ 2000 := by
    have hlen := passLen_eq
    unfold perNat
    split <;> simp only [Config.periodMin, Config.periodMax, Config.periodStep] <;> omega
  exact Nat.mod_eq_of_lt (by omega)

/-- Settles O27: the two passes are the two branches of `perNat`. -/
theorem sweepPeriodFunction : Obligations.SweepPeriodFunction := by
  refine ⟨fun k hk => ?_, fun k hk => ?_, rfl⟩ <;> rw [per_toNat, perNat, passLen_eq]
  · exact if_pos (by omega)
  · exact if_neg (by omega)

/-- Settles O28: the guard is that the position leads on under this period. -/
theorem setPeriodSendsTheLoopsCommand : Obligations.SetPeriodSendsTheLoopsCommand := by
  refine ⟨fun p => rfl, fun k s hs hp hl => ?_, fun s hs hp hl => ?_, fun p s hn => ?_⟩
  · exact exec_loopSetPeriod_next_iff.mpr
      ⟨hs, hp, _, setPeriodNext_eq_some_iff.mpr (.inl ⟨k, hl, rfl, rfl⟩), rfl⟩
  · exact exec_loopSetPeriod_next_iff.mpr ⟨hs, hp, _, setPeriodNext_eq_some_iff.mpr (.inr ⟨hl, rfl, rfl⟩), rfl⟩
  · refine exec_loop_eq_notEnabled rfl fun t h => hn ?_
    obtain ⟨-, hp, q, hq, -⟩ := exec_loopSetPeriod_next_iff.mp h
    obtain ⟨k, hl, hper, -⟩ | ⟨hl, hsil, -⟩ := setPeriodNext_eq_some_iff.mp hq
    · exact ⟨hp, .inl ⟨k, hl, hper⟩⟩
    · exact ⟨hp, .inr ⟨hl, hsil⟩⟩

/-- At TOP, the loop not preempted, LOOP_READ_PLAY completes on either value of the flag (R172). -/
theorem exec_loopReadPlay_at_top {b : Bool} (hs : s.started = true) (hp : s.svc = .idle) (hl : s.lpc = .top)
    (hb : s.play = b) : exec .loopReadPlay s = .next ((s.emit (.readPlay b)).setLpc (readPlayNext b)) :=
  exec_loopReadPlay_next_iff.mpr ⟨hs, hp, hl, by rw [hb]⟩

/-- At FCHK, the loop not preempted, LOOP_READ_FLASH completes on either value of the flag (R176). -/
theorem exec_loopReadFlash_at_fchk {b : Bool} (hs : s.started = true) (hp : s.svc = .idle) (hl : s.lpc = .fchk)
    (hb : s.flash = b) :
    exec .loopReadFlash s =
      .next ((s.emit (.readFlash b)).setLpc (readFlashNext s.cfg.flashToggleForm b)) :=
  exec_loopReadFlash_next_iff.mpr ⟨hs, hp, hl, by rw [hb]⟩

/-- Settles O29: the value read decides between the two branches. -/
theorem readPlayBranches : Obligations.ReadPlayBranches := by
  refine ⟨rfl, fun s hs hp hl => ⟨exec_loopReadPlay_at_top hs hp hl, exec_loopReadPlay_at_top hs hp hl⟩,
    fun s hn => ?_⟩
  refine exec_loop_eq_notEnabled rfl fun t h => hn ?_
  obtain ⟨-, hp, hl, -⟩ := exec_loopReadPlay_next_iff.mp h
  exact ⟨hp, hl⟩

/-- Settles O30: the value read and FLASH_TOGGLE_FORM decide between the three branches. -/
theorem readFlashBranches : Obligations.ReadFlashBranches := by
  refine ⟨rfl, fun s hs hp hl => ⟨fun hv hf => ?_, fun hv hf => ?_, exec_loopReadFlash_at_fchk hs hp hl⟩,
    fun s hn => ?_⟩
  · rw [exec_loopReadFlash_at_fchk hs hp hl hv, hf]; rfl
  · rw [exec_loopReadFlash_at_fchk hs hp hl hv, hf]; rfl
  · refine exec_loop_eq_notEnabled rfl fun t h => hn ?_
    obtain ⟨-, hp, hl, -⟩ := exec_loopReadFlash_next_iff.mp h
    exact ⟨hp, hl⟩

/-- A mask of one LED is Red's or Green's. -/
theorem Led.mask_cases (fm : Led) : fm.mask = 0b01#2 ∨ fm.mask = 0b10#2 := by
  cases fm with
  | red => exact .inl rfl
  | green => exact .inr rfl

/-- Settles O31: the guard is that the position leads on under this mask. -/
theorem flashToggleInvertsItsMask : Obligations.FlashToggleInvertsItsMask := by
  refine ⟨fun m => rfl, fun s hs hp => ⟨fun fm hl => ?_, fun fm hl => ?_, fun hl => ?_⟩, fun m s hn => ?_, rfl, rfl⟩
  · exact exec_loopFlashTgl_next_iff.mpr
      ⟨hs, hp, _, flashTglNext_eq_some_iff.mpr (.inl ⟨fm, hl, rfl, rfl⟩), rfl⟩
  · exact exec_loopFlashTgl_next_iff.mpr
      ⟨hs, hp, _, flashTglNext_eq_some_iff.mpr (.inr (.inl ⟨fm, hl, rfl, rfl⟩)), rfl⟩
  · exact exec_loopFlashTgl_next_iff.mpr
      ⟨hs, hp, _, flashTglNext_eq_some_iff.mpr (.inr (.inr ⟨hl, rfl, rfl⟩)), rfl⟩
  · refine exec_loop_eq_notEnabled rfl fun t h => hn ?_
    obtain ⟨-, hp, q, hq, -⟩ := exec_loopFlashTgl_next_iff.mp h
    obtain ⟨fm, hl, rfl, -⟩ | ⟨fm, hl, hm, -⟩ | ⟨hl, hm, -⟩ := flashTglNext_eq_some_iff.mp hq
    · exact ⟨hp, .inl ⟨hl, fm.mask_cases⟩⟩
    · exact ⟨hp, .inr (.inl ⟨fm, hl, hm⟩)⟩
    · exact ⟨hp, .inr (.inr ⟨hl, hm⟩)⟩

/-- Settles O32: the guard is that the position is a delay, and the last delay of the sweep leads out of it. -/
theorem delayOnlyMovesTheLoop : Obligations.DelayOnlyMovesTheLoop := by
  refine ⟨rfl, fun s hs hp => ⟨fun k hk hl => ?_, fun hl => ?_, fun hl => ?_⟩, fun s hn => ?_⟩
  · exact exec_loopDelay_next_iff.mpr
      ⟨hs, hp, _, delayNext_eq_some_iff.mpr (.inl ⟨k, hl, (dif_pos hk).symm⟩), rfl⟩
  · exact exec_loopDelay_next_iff.mpr ⟨hs, hp, _, delayNext_eq_some_iff.mpr (.inl ⟨31, hl, rfl⟩), rfl⟩
  · exact exec_loopDelay_next_iff.mpr ⟨hs, hp, _, delayNext_eq_some_iff.mpr (.inr ⟨hl, rfl⟩), rfl⟩
  · refine exec_loop_eq_notEnabled rfl fun t h => hn ?_
    obtain ⟨-, hp, q, hq, -⟩ := exec_loopDelay_next_iff.mp h
    obtain ⟨k, hl, -⟩ | ⟨hl, -⟩ := delayNext_eq_some_iff.mp hq
    · exact ⟨hp, .inl ⟨k, hl⟩⟩
    · exact ⟨hp, .inr hl⟩

end Sys2Proof.Machine
end

section
/-!
PROOFS. The loop's program as seen in runs (R170, R175, R179 to R184): which positions a loop operation can lead to and which
tone command it sends. Only loop operations move the loop and send tones, so a statement on a run needs one step over the
loop's positions, however services and switch changes come between.
-/

namespace Sys2Proof.Machine

variable {s t : State} {i : Instr} {ops : List Instr} {p q : LoopPos} {n : Nat} {sent : List Period}

/-- The positions a loop operation can lead to from a position, with the flags the state has: one, but for the half with
which a split toggle begins (R170 to R178). -/
@[simp] def State.loopTargets (s : State) : LoopPos → List LoopPos
  | .bootClk => [.bootSw]
  | .bootSw => [.bootLed]
  | .bootLed => [.bootBuz]
  | .bootBuz => [.bootGie]
  | .bootGie => [.top]
  | .top => [readPlayNext s.play]
  | .swpSet k => [.swpDly k]
  | .swpDly k => [if h : k.val < 31 then .swpSet ⟨k.val + 1, by omega⟩ else .fchk]
  | .sil => [.fchk]
  | .fchk => [readFlashNext s.cfg.flashToggleForm s.flash]
  | .ftglA => [.ftglB .red, .ftglB .green]
  | .ftglB _ => [.fdly]
  | .ftgl => [.fdly]
  | .fdly => [.top]

/-- The tone commands that the loop's operation at a position sends (R173). -/
@[simp] def LoopPos.tones : LoopPos → List Period
  | .swpSet k => [per k]
  | .sil => [Config.silence]
  | _ => []

/-- From FCHK the loop goes to TOP or begins a toggle in one of its two forms (R176). -/
theorem cases_of_mem_loopTargets_fchk (h : q ∈ s.loopTargets .fchk) : q = .top ∨ q = .ftglA ∨ q = .ftgl := by
  obtain rfl := List.mem_singleton.mp h
  obtain hq | ⟨-, hq⟩ | ⟨-, hq⟩ := readFlashNext_cases s.cfg.flashToggleForm s.flash <;> simp [hq]

/-- A split toggle begins with either half (R178). -/
theorem cases_of_mem_loopTargets_ftglA (h : q ∈ s.loopTargets .ftglA) : q = .ftglB .red ∨ q = .ftglB .green := by
  simpa using h

/-- A loop operation that completes moves the loop along its program and sends what its position calls for; the one that
runs at TOP is LOOP_READ_PLAY. -/
theorem loop_step_cases (ha : i.agent = .loop) (h : exec i s = .next t) :
    t.lpc ∈ s.loopTargets s.lpc ∧ toneEvents (emits i s) = s.lpc.tones ∧ (s.lpc = .top → i = .loopReadPlay) := by
  cases i <;> cases ha
  case bootClk => obtain ⟨-, -, hl, rfl⟩ := exec_bootClk_next_iff.mp h; simp [hl, emits, toneEvents]
  case bootSwCfg => obtain ⟨-, -, hl, rfl⟩ := exec_bootSwCfg_next_iff.mp h; simp [hl, emits, toneEvents]
  case bootLedCfg => obtain ⟨-, -, hl, rfl⟩ := exec_bootLedCfg_next_iff.mp h; simp [hl, emits, toneEvents]
  case bootBuz => obtain ⟨-, -, hl, rfl⟩ := exec_bootBuz_next_iff.mp h; simp [hl, emits, toneEvents]
  case bootGie => obtain ⟨-, -, hl, rfl⟩ := exec_bootGie_next_iff.mp h; simp [hl, emits, toneEvents]
  case loopReadPlay => obtain ⟨-, -, hl, rfl⟩ := exec_loopReadPlay_next_iff.mp h; simp [hl, emits, toneEvents]
  case loopReadFlash => obtain ⟨-, -, hl, rfl⟩ := exec_loopReadFlash_next_iff.mp h; simp [hl, emits, toneEvents]
  case loopSetPeriod p =>
    obtain ⟨-, -, q, hq, rfl⟩ := exec_loopSetPeriod_next_iff.mp h
    obtain ⟨k, hl, rfl, rfl⟩ | ⟨hl, rfl, rfl⟩ := setPeriodNext_eq_some_iff.mp hq <;> simp [hl, emits, toneEvents]
  case loopFlashTgl m =>
    obtain ⟨-, -, q, hq, rfl⟩ := exec_loopFlashTgl_next_iff.mp h
    obtain ⟨fm, hl, -, rfl⟩ | ⟨fm, hl, -, rfl⟩ | ⟨hl, -, rfl⟩ := flashTglNext_eq_some_iff.mp hq
    · cases fm <;> simp [hl, emits, toneEvents]
    · simp [hl, emits, toneEvents]
    · simp [hl, emits, toneEvents]
  case loopDelay =>
    obtain ⟨-, -, q, hq, rfl⟩ := exec_loopDelay_next_iff.mp h
    obtain ⟨k, hl, rfl⟩ | ⟨hl, rfl⟩ := delayNext_eq_some_iff.mp hq <;> simp [hl, emits, toneEvents]

/-- No other agent moves the loop (R45). -/
theorem lpc_eq_of_exec (hs : s.started = true) (ha : i.agent ≠ .loop) (h : exec i s = .next t) : t.lpc = s.lpc := by
  obtain ⟨-, -, -, -, -, -, -, -, -, -, -, -, -, -, -, -, hl, -⟩ := onlyNamedOperationsWriteEachField i s t hs h
  exact hl.resolve_right ha

/-- No agent but the sequencer writes a mode flag (R180). -/
theorem modeFlags_eq_of_exec (hs : s.started = true) (ha : i.agent ≠ .seq) (h : exec i s = .next t) :
    t.play = s.play ∧ t.flash = s.flash := by
  obtain ⟨-, -, -, -, -, -, -, -, -, hplay, hflash, -⟩ := onlyNamedOperationsWriteEachField i s t hs h
  exact ⟨hplay.resolve_right fun hi => ha (hi ▸ rfl), hflash.resolve_right fun hi => ha (hi ▸ rfl)⟩

/-- Settles O38, by induction on the operations. -/
theorem loopNeverWritesModeFlags : Obligations.LoopNeverWritesModeFlags := by
  intro ops s t hs ha h
  induction ops generalizing s with
  | nil => cases h; exact ⟨rfl, rfl⟩
  | cons i is ih =>
    obtain ⟨hi, his⟩ := List.forall_mem_cons.mp ha
    obtain ⟨u, hu, hrest⟩ := execAll_cons_next_iff.mp h
    obtain ⟨hplay, hflash⟩ := modeFlags_eq_of_exec hs hi hu
    obtain ⟨hplay', hflash'⟩ := ih u (eq_effect_of_exec hu ▸ effect_started i s hs) his hrest
    exact ⟨hplay'.trans hplay, hflash'.trans hflash⟩

/-- The loop's program leads from a boot phase to the one after it, and from the cycle into the cycle (R179, R237). -/
theorem boot_of_mem_loopTargets (h : q ∈ s.loopTargets p) :
    (p.isBoot = false → q.isBoot = false) ∧ (p.isBoot = true → q.code = p.code + 1) := by
  cases p with
  | top =>
    obtain rfl := List.mem_singleton.mp h
    cases s.play <;> simp [readPlayNext, LoopPos.isBoot, LoopPos.code]
  | fchk => obtain rfl | rfl | rfl := cases_of_mem_loopTargets_fchk h <;> simp [LoopPos.isBoot, LoopPos.code]
  | ftglA => obtain rfl | rfl := cases_of_mem_loopTargets_ftglA h <;> simp [LoopPos.isBoot, LoopPos.code]
  | swpDly k =>
    obtain rfl := List.mem_singleton.mp h
    split <;> simp [LoopPos.isBoot, LoopPos.code]
  | _ => obtain rfl := List.mem_singleton.mp h; simp [LoopPos.isBoot, LoopPos.code]

/-- Settles O40: only the loop moves its position, and along its program. -/
theorem loopNeverLeavesItsCycle : Obligations.LoopNeverLeavesItsCycle := by
  intro i s t hs h
  by_cases ha : i.agent = .loop
  · obtain ⟨hcycle, hboot⟩ := boot_of_mem_loopTargets (loop_step_cases ha h).1
    exact ⟨hcycle, fun hb => .inr (hboot hb)⟩
  · rw [lpc_eq_of_exec hs ha h]
    exact ⟨id, fun _ => .inl rfl⟩

theorem toneEvents_append (es fs : List Event) : toneEvents (es ++ fs) = toneEvents es ++ toneEvents fs := by
  induction es with
  | nil => rfl
  | cons e es ih => cases e <;> simp [toneEvents, ih]

/-- No other agent sends a tone command (R173). -/
theorem toneEvents_emits_of_not_loop (ha : i.agent ≠ .loop) (s : State) : toneEvents (emits i s) = [] := by
  cases i with
  | svcBtn1 | svcBtn2 | svcBtn3 => simp only [emits]; split <;> rfl
  | svcBtn4 => simp only [emits]; split <;> cases s.flash <;> rfl
  | loopSetPeriod | loopReadPlay | loopReadFlash | loopFlashTgl => exact absurd rfl ha
  | _ => rfl

/-- A fact on the number of loop operations, the loop's position and the tone commands sent holds after a run if it holds
at its start and each loop operation of the run keeps it. -/
theorem loop_invariant {P : Nat → LoopPos → List Period → Prop} (hs : s.started = true) (h0 : P 0 s.lpc [])
    (hstep : ∀ {pre i u q n sent}, pre ++ [i] <+: ops → execAll pre s = .next u →
      (u.lpc = .top → i = .loopReadPlay) → q ∈ u.loopTargets u.lpc → P n u.lpc sent →
        P (n + 1) q (sent ++ u.lpc.tones))
    (h : execAll ops s = .next t) :
    ∃ es, t.events = s.events ++ es ∧ P (opsOf .loop ops).length t.lpc (toneEvents es) := by
  induction ops using List.reverseRecOn generalizing t with
  | nil => cases h; exact ⟨[], by simp, h0⟩
  | append_singleton ops i ih =>
    obtain ⟨u, hu, hrest⟩ := execAll_append_next_iff.mp h
    obtain ⟨_, hi, ht⟩ := execAll_cons_next_iff.mp hrest
    cases ht
    obtain ⟨es, hes, hP⟩ := ih (fun hpre => hstep (hpre.trans (List.prefix_append ops [i]))) hu
    have hus := started_of_execAll hs hu
    have hev : t.events = s.events ++ (es ++ emits i u) := by
      rw [eq_effect_of_exec hi, effect_events u (ne_reset_of_exec hus hi), hes, List.append_assoc]
    refine ⟨es ++ emits i u, hev, ?_⟩
    rw [toneEvents_append]
    by_cases ha : i.agent = .loop
    · obtain ⟨hq, htone, htop⟩ := loop_step_cases ha hi
      have hlen : (opsOf .loop (ops ++ [i])).length = (opsOf .loop ops).length + 1 := by simp [opsOf, ha]
      rw [htone, hlen]
      exact hstep List.prefix_rfl hu htop hq hP
    · have hlen : opsOf .loop (ops ++ [i]) = opsOf .loop ops := by simp [opsOf, ha]
      rwa [toneEvents_emits_of_not_loop ha, List.append_nil, hlen, lpc_eq_of_exec hus ha hi]

/-- Such a fact over what follows LOOP_READ_PLAY up to the next one: no loop operation of that stretch runs at TOP. -/
theorem iteration_invariant {P : Nat → LoopPos → List Period → Prop} (hs : s.started = true)
    (h0 : P 0 (readPlayNext s.play) []) (hno : .loopReadPlay ∉ ops)
    (hstep : ∀ {u : State} {q n sent}, u.lpc ≠ .top → q ∈ u.loopTargets u.lpc → P n u.lpc sent →
      P (n + 1) q (sent ++ u.lpc.tones))
    (h : execAll (.loopReadPlay :: ops) s = .next t) :
    ∃ es, t.events = s.events ++ es ∧ P (opsOf .loop ops).length t.lpc (toneEvents es) := by
  obtain ⟨u, hu, hrest⟩ := execAll_cons_next_iff.mp h
  obtain ⟨-, -, -, hread⟩ := exec_loopReadPlay_next_iff.mp hu
  have hus : u.started = true := by simp [hread, hs]
  have hul : u.lpc = readPlayNext s.play := by simp [hread]
  obtain ⟨es, hes, hP⟩ := loop_invariant hus (hul ▸ h0)
    (fun hpre _ htop hq hP => hstep (fun hl => hno (hpre.subset (by simp [htop hl]))) hq hP) hrest
  exact ⟨.readPlay s.play :: es, by simp [hes, hread], hP⟩

/-- The part of an iteration after the sweep or the silence, and TOP, where the next iteration begins (R170). -/
def LoopPos.inFlashPart : LoopPos → Bool
  | .fchk | .ftglA | .ftglB _ | .ftgl | .fdly | .top => true
  | _ => false

/-- In the flash part the loop sends no tone command, and leaves it by LOOP_READ_PLAY alone. -/
theorem inFlashPart_of_mem_loopTargets (hp : p.inFlashPart = true) (htop : p ≠ .top) (h : q ∈ s.loopTargets p) :
    q.inFlashPart = true ∧ p.tones = [] := by
  cases p with
  | top => exact absurd rfl htop
  | fchk => obtain rfl | rfl | rfl := cases_of_mem_loopTargets_fchk h <;> exact ⟨rfl, rfl⟩
  | ftglA => obtain rfl | rfl := cases_of_mem_loopTargets_ftglA h <;> exact ⟨rfl, rfl⟩
  | ftglB | ftgl | fdly => obtain rfl := List.mem_singleton.mp h; exact ⟨rfl, rfl⟩
  | _ => cases hp

@[simp] theorem length_sweepPeriods : sweepPeriods.length = 32 := by simp [sweepPeriods]

/-- The sweep's commands one at a time (R171). -/
theorem take_sweepPeriods_succ (k : Fin 32) :
    sweepPeriods.take (k.val + 1) = sweepPeriods.take k.val ++ [per k] := by
  have hk : k.val < sweepPeriods.length := by simp
  rw [← List.take_concat_get' _ _ hk]
  simp [sweepPeriods]

/-- After `n` loop operations from SWP_SET(0): where the loop stands and which tone commands it has sent (R175). -/
inductive SweepAt : Nat → LoopPos → List Period → Prop where
  | set (k : Fin 32) : SweepAt (2 * k.val) (.swpSet k) (sweepPeriods.take k.val)
  | dly (k : Fin 32) : SweepAt (2 * k.val + 1) (.swpDly k) (sweepPeriods.take (k.val + 1))
  | fchk : SweepAt 64 .fchk sweepPeriods
  | flashPart {n : Nat} {p : LoopPos} (hn : 64 < n) (hp : p.inFlashPart = true) : SweepAt n p sweepPeriods

/-- One more loop operation that is no LOOP_READ_PLAY. -/
theorem SweepAt.succ (h : SweepAt n p sent) (htop : p ≠ .top) (hq : q ∈ s.loopTargets p) :
    SweepAt (n + 1) q (sent ++ p.tones) := by
  cases h with
  | set k =>
    obtain rfl := List.mem_singleton.mp hq
    exact take_sweepPeriods_succ k ▸ .dly k
  | dly k =>
    obtain rfl := List.mem_singleton.mp hq
    simp only [LoopPos.tones, List.append_nil]
    split
    next hk => exact .set ⟨k.val + 1, by omega⟩
    next hk =>
      obtain rfl : k = 31 := by omega
      exact .fchk
  | fchk =>
    obtain ⟨hq, htones⟩ := inFlashPart_of_mem_loopTargets rfl htop hq
    rw [htones, List.append_nil]
    exact .flashPart (by omega) hq
  | flashPart hn hp =>
    obtain ⟨hq, htones⟩ := inFlashPart_of_mem_loopTargets hp htop hq
    rw [htones, List.append_nil]
    exact .flashPart (by omega) hq

/-- The loop is not back at TOP within its 64 operations. -/
theorem SweepAt.ne_top (h : SweepAt n p sent) (hn : n ≤ 64) : p ≠ .top := by
  rintro rfl
  cases h
  omega

/-- The commands sent are the first half of the operations, rounded up. -/
theorem SweepAt.sent_eq (h : SweepAt n p sent) : sent = sweepPeriods.take ((n + 1) / 2) := by
  have hall {m : Nat} (hm : 32 ≤ m) : sweepPeriods = sweepPeriods.take m :=
    (List.take_of_length_le (by simpa using hm)).symm
  cases h with
  | set k => rw [show (2 * k.val + 1) / 2 = k.val by omega]
  | dly k => rw [show (2 * k.val + 1 + 1) / 2 = k.val + 1 by omega]
  | fchk => exact hall (by omega)
  | flashPart hn => exact hall (by omega)

/-- Within the sweep an even number of operations ends before a command and an odd one before its delay. -/
theorem SweepAt.lpc_eq (h : SweepAt n p sent) :
    (n = 64 → p = .fchk) ∧ (n < 64 → n % 2 = 0 → p = .swpSet (Fin.ofNat 32 (n / 2))) ∧
      (n ≤ 64 → n % 2 = 1 → p = .swpDly (Fin.ofNat 32 (n / 2))) := by
  cases h with
  | set k =>
    refine ⟨fun hn => by omega, fun _ _ => congrArg _ (Fin.ext ?_), fun _ hn => by omega⟩
    simp only [Fin.val_ofNat]
    omega
  | dly k =>
    refine ⟨fun hn => by omega, fun _ hn => by omega, fun _ _ => congrArg _ (Fin.ext ?_)⟩
    simp only [Fin.val_ofNat]
    omega
  | fchk => exact ⟨fun _ => rfl, fun hn => by omega, fun _ hn => by omega⟩
  | flashPart hn => exact ⟨fun _ => by omega, fun _ => by omega, fun _ => by omega⟩

/-- Settles O45: the sweep's commands follow the count of loop operations, of which the first 64 are no LOOP_READ_PLAY. -/
theorem sweepRunsToCompletion : Obligations.SweepRunsToCompletion := by
  refine ⟨fun ops s t hs hl h hn => ?_, fun ops s t hs hl hplay hno h => ?_, by decide⟩
  · have hkeep {u : State} {q n sent} (hq : q ∈ u.loopTargets u.lpc) (hP : n ≤ 64 → SweepAt n u.lpc sent)
        (hn : n + 1 ≤ 64) : SweepAt (n + 1) q (sent ++ u.lpc.tones) :=
      have hat := hP (by omega)
      hat.succ (hat.ne_top (by omega)) hq
    obtain ⟨es, hes, hsweep⟩ := loop_invariant (P := fun n p sent => n ≤ 64 → SweepAt n p sent) hs
      (fun _ => hl ▸ .set 0) (fun _ _ _ => hkeep) h
    have hat := hsweep hn
    obtain ⟨hfchk, hset, hdly⟩ := hat.lpc_eq
    exact ⟨⟨es, hes, hat.sent_eq⟩, hfchk, hset, hdly hn⟩
  · obtain ⟨es, hes, hat⟩ := iteration_invariant (P := SweepAt) hs (hplay ▸ .set 0) hno
      (fun htop hq hP => hP.succ htop hq) h
    exact ⟨es, hes, hat.sent_eq⟩

/-- After `n` loop operations from SIL: where the loop stands and which tone commands it has sent (R182). -/
inductive SilencedAt : Nat → LoopPos → List Period → Prop where
  | sil : SilencedAt 0 .sil []
  | flashPart {n : Nat} {p : LoopPos} (hp : p.inFlashPart = true) : SilencedAt (n + 1) p [0#12]

/-- One more loop operation that is no LOOP_READ_PLAY. -/
theorem SilencedAt.succ (h : SilencedAt n p sent) (htop : p ≠ .top) (hq : q ∈ s.loopTargets p) :
    SilencedAt (n + 1) q (sent ++ p.tones) := by
  cases h with
  | sil =>
    obtain rfl := List.mem_singleton.mp hq
    exact .flashPart rfl
  | flashPart hp =>
    obtain ⟨hq, htones⟩ := inFlashPart_of_mem_loopTargets hp htop hq
    rw [htones, List.append_nil]
    exact .flashPart hq

theorem SilencedAt.sent_eq (h : SilencedAt n p sent) (hn : 0 < n) : sent = [0#12] := by
  cases h with
  | sil => omega
  | flashPart => rfl

/-- Settles O46: the first loop operation after the read silences, and the flash part sends nothing. -/
theorem pausedIterationSilencesOnce : Obligations.PausedIterationSilencesOnce := by
  intro ops s t hs hl hplay hno hne h
  obtain ⟨es, hes, hat⟩ := iteration_invariant (P := SilencedAt) hs (hplay ▸ .sil) hno
    (fun htop hq hP => hP.succ htop hq) h
  exact ⟨es, hes, hat.sent_eq (List.length_pos_of_ne_nil hne)⟩

/-- With `play = 0`, at most so many loop operations from a position up to and with the one that sends `tone(0)` (R184). -/
def LoopPos.opsToSilence : LoopPos → Nat
  | .bootClk => 7
  | .bootSw => 6
  | .bootLed => 5
  | .bootBuz => 4
  | .bootGie => 3
  | .top => 2
  | .swpSet k => 70 - 2 * k.val
  | .swpDly k => 69 - 2 * k.val
  | .sil => 1
  | .fchk => 6
  | .ftglA => 5
  | .ftglB _ => 4
  | .ftgl => 4
  | .fdly => 3

theorem LoopPos.opsToSilence_pos (p : LoopPos) : 0 < p.opsToSilence := by
  cases p <;> simp only [LoopPos.opsToSilence] <;> omega

/-- With `play = 0` a loop operation comes nearer to the silencing command or sends it. -/
theorem opsToSilence_of_mem_loopTargets (hplay : s.play = false) (h : q ∈ s.loopTargets p) :
    0#12 ∈ p.tones ∨ q.opsToSilence < p.opsToSilence := by
  cases p with
  | sil => exact .inl (List.mem_singleton.mpr rfl)
  | fchk => obtain rfl | rfl | rfl := cases_of_mem_loopTargets_fchk h <;> exact .inr (by decide)
  | ftglA => obtain rfl | rfl := cases_of_mem_loopTargets_ftglA h <;> exact .inr (by decide)
  | swpDly k =>
    obtain rfl := List.mem_singleton.mp h
    refine .inr ?_
    split <;> simp only [LoopPos.opsToSilence] <;> omega
  | swpSet k =>
    obtain rfl := List.mem_singleton.mp h
    exact .inr (by simp only [LoopPos.opsToSilence]; omega)
  | top =>
    obtain rfl := List.mem_singleton.mp h
    exact .inr (by simp [hplay, readPlayNext, LoopPos.opsToSilence])
  | _ =>
    obtain rfl := List.mem_singleton.mp h
    exact .inr (by simp [LoopPos.opsToSilence])

/-- The silencing command has been sent, or is the 70th loop operation at the latest. -/
def SilentBySeventy (n : Nat) (p : LoopPos) (sent : List Period) : Prop := 0#12 ∈ sent ∨ n + p.opsToSilence ≤ 70

theorem SilentBySeventy.succ (h : SilentBySeventy n p sent) (hplay : s.play = false) (hq : q ∈ s.loopTargets p) :
    SilentBySeventy (n + 1) q (sent ++ p.tones) := by
  obtain hsent | hn := h
  · exact .inl (List.mem_append_left _ hsent)
  · obtain htone | hlt := opsToSilence_of_mem_loopTargets hplay hq
    · exact .inl (List.mem_append_right _ htone)
    · exact .inr (by omega)

/-- Settles O47: from SWP_SET(0) the silencing command is 70 loop operations away at most. -/
theorem pauseLatencyAtMostSeventy : Obligations.PauseLatencyAtMostSeventy := by
  intro ops s t hs hl hplay hlen h
  obtain ⟨es, hes, hsent | hn⟩ := loop_invariant (P := SilentBySeventy) hs (.inr (by simp [hl, LoopPos.opsToSilence]))
    (fun hpre hu _ hq hP => hP.succ (hplay _ _ ((List.prefix_append _ _).trans hpre) hu) hq) h
  · exact ⟨es, hes, hsent⟩
  · have hpos := t.lpc.opsToSilence_pos
    omega

end Sys2Proof.Machine
end

section
/-!
PROOFS. Preemption and the life of a request (R203, R210): a service shuts the loop out and never the switches, a request
stays until the sequencer takes it, and under weak fairness the sequencer takes every step it keeps being able to take.
-/

namespace Sys2Proof.Machine

variable {s t : State} {i : Instr}

/-- Settles O33: a loop operation that completes does so with the sequencer idle, and PIN_SET asks for nothing but RESET. -/
theorem loopIsPreemptedByAService : Obligations.LoopIsPreemptedByAService :=
  ⟨fun i _ hp ha => exec_loop_eq_notEnabled ha fun t ht => hp (svc_idle_of_loop_enabled ⟨i, ha, t, ht⟩),
    fun n v _ hs => ⟨_, exec_pinSet_of_started hs n v⟩⟩

/-- Two vectors meet exactly when they share a set bit (R201). -/
theorem and_ne_zero_iff {a b : Pins} : a &&& b ≠ 0b0000#4 ↔ ∃ n, pinBit a n = true ∧ pinBit b n = true := by
  revert a b
  decide

/-- No agent but the sequencer lowers a pending flag (R63, R101). -/
theorem pend_kept_of_exec {n : Pin} (hs : s.started = true) (ha : i.agent ≠ .seq) (h : exec i s = .next t)
    (hn : pinBit s.pend n = true) : pinBit t.pend n = true := by
  obtain ⟨-, -, -, -, -, -, hpend, -⟩ := onlyNamedOperationsWriteEachField i s t hs h
  obtain hpend | ⟨m, v, rfl⟩ | ⟨m, rfl⟩ | ⟨q, rfl⟩ := hpend
  · rwa [hpend]
  · obtain rfl := (exec_pinSet_next_iff.mp h).2
    simp [State.pinBit_latchedPend, hn]
  · exact absurd rfl ha
  · exact absurd rfl ha

/-- No operation after RESET disables a pin's interrupt (R28, R233). -/
theorem ie_kept_of_exec {n : Pin} (hs : s.started = true) (h : exec i s = .next t) (hn : pinBit s.ie n = true) :
    pinBit t.ie n = true := by
  obtain ⟨-, -, -, -, -, -, -, hie, -⟩ := onlyNamedOperationsWriteEachField i s t hs h
  obtain hie | rfl := hie
  · rwa [hie]
  · obtain ⟨-, -, -, rfl⟩ := exec_bootSwCfg_next_iff.mp h
    exact pinBit_ones n

/-- No operation after RESET clears the global enable (R29). -/
theorem gie_kept_of_exec (hs : s.started = true) (h : exec i s = .next t) (hg : s.gie = true) : t.gie = true := by
  obtain ⟨-, -, -, hgie⟩ := effect_follows_inputs s (ne_reset_of_exec hs h)
  simp [eq_effect_of_exec h, hgie, hg]

/-- No agent but the sequencer moves it (R40). -/
theorem svc_eq_of_exec_of_not_seq (hs : s.started = true) (ha : i.agent ≠ .seq) (h : exec i s = .next t) :
    t.svc = s.svc :=
  (sequencerAdvancesInOrder.2.1 i s t ha h).resolve_right fun ⟨⟨r, l, hi⟩, _⟩ => ne_reset_of_exec hs h r l hi

/-- Of the sequencer's operations only SVC_ENTER runs while it is idle (R121). -/
theorem eq_svcEnter_of_exec_idle (ha : i.agent = .seq) (hp : s.svc = .idle) (h : exec i s = .next t) :
    i = .svcEnter := by
  have hat : ∀ p, runsAt i = some p → .idle = p := fun p hr => hp.symm.trans (svc_eq_of_exec h hr)
  cases i <;> simp [runsAt, Instr.agent] at hat ha ⊢

/-- Settles O39: with the sequencer idle the others alone can act, and they keep the flag, its enable and `gie`. -/
theorem requestPersistsUntilEntry : Obligations.RequestPersistsUntilEntry := by
  intro i s t hs hr hi h
  obtain ⟨hg, hflag, hp⟩ := State.req_iff.mp hr
  obtain ⟨n, hpend, hie⟩ := and_ne_zero_iff.mp hflag
  have ha : i.agent ≠ .seq := fun ha => hi (eq_svcEnter_of_exec_idle ha hp h)
  exact State.req_iff.mpr ⟨gie_kept_of_exec hs h hg,
    and_ne_zero_iff.mpr ⟨n, pend_kept_of_exec hs ha h hpend, ie_kept_of_exec hs h hie⟩,
    (svc_eq_of_exec_of_not_seq hs ha h).trans hp⟩

/-- The use of weak fairness: where a condition has the sequencer enabled and the other agents keep it, the sequencer steps
at some point while the condition holds (R210). -/
theorem IsFairRun.exists_seq_step {st : Nat → State} {op : Nat → Instr} {n : Nat} {P : State → Prop}
    (h : IsFairRun st op) (hn : P (st n)) (henabled : ∀ s, P s → agentEnabled .seq s)
    (hkept : ∀ i s t, P s → i.agent ≠ .seq → exec i s = .next t → P t) :
    ∃ m, n ≤ m ∧ P (st m) ∧ (op m).agent = .seq := by
  by_contra hno
  have hP : ∀ m, n ≤ m → P (st m) :=
    Nat.le_induction hn fun m hm ih => hkept _ _ _ ih (fun ha => hno ⟨m, hm, ih, ha⟩) (h.run m)
  obtain ⟨m, hm, ha⟩ := h.seq_fair n (fun m hm => henabled _ (hP m hm)) n
  exact hno ⟨m, hm, hP m hm, ha⟩

/-- Settles O54: while the request holds SVC_ENTER is enabled, and it is the one sequencer operation that can then run. -/
theorem requestedServiceIsEventuallyEntered : Obligations.RequestedServiceIsEventuallyEntered := by
  intro st op n hfair hs hr
  obtain ⟨m, hm, ⟨-, hreq⟩, ha⟩ :=
    hfair.exists_seq_step (P := fun s => s.started = true ∧ s.req = true) ⟨hs, hr⟩
      (fun _ ⟨hs, hr⟩ => ⟨.svcEnter, rfl, _, exec_svcEnter_next_iff.mpr ⟨hs, hr, rfl⟩⟩)
      (fun i s t ⟨hs, hr⟩ ha he =>
        ⟨eq_effect_of_exec he ▸ effect_started i s hs,
          requestPersistsUntilEntry i s t hs hr (fun hi => ha (hi ▸ rfl)) he⟩)
  exact ⟨m, hm, eq_svcEnter_of_exec_idle ha (State.req_iff.mp hreq).2.2 (hfair.run m)⟩

/-- The sequencer operations from a position up to and with SVC_EXIT (R120). -/
def SvcPos.stepsLeft : SvcPos → Nat
  | .idle => 0
  | .clr => 8
  | .snap => 7
  | .rearm => 6
  | .b1 => 5
  | .b2 => 4
  | .b3 => 3
  | .b4 => 2
  | .exit => 1

theorem SvcPos.stepsLeft_eq_zero_iff {p : SvcPos} : p.stepsLeft = 0 ↔ p = .idle := by
  cases p <;> simp [SvcPos.stepsLeft]

/-- Every sequencer operation of a running service brings its end one step nearer (R40). -/
theorem stepsLeft_of_exec (ha : i.agent = .seq) (hp : s.svc ≠ .idle) (h : exec i s = .next t) :
    s.svc.stepsLeft = t.svc.stepsLeft + 1 := by
  have ht : t.svc = svcAfter i s.svc := by rw [eq_effect_of_exec h, effect_svc]
  cases i <;> cases ha
  case svcEnter => exact absurd (svc_eq_of_exec h rfl) hp
  all_goals rw [ht, svc_eq_of_exec h rfl]; rfl

theorem Inv.canGoOn (h : Inv s) (hs : s.started = true) : CanGoOn s where
  started := hs
  seen_set hp := by
    obtain ⟨m, hm, -⟩ := h.seen_at_clr hp
    simp [hm]
  snap_set := h.snap_taken

theorem scheduled_agent_of_service (hp : s.svc ≠ .idle) : (scheduled s).agent = .seq := by
  cases hq : s.svc with
  | idle => exact absurd hq hp
  | _ => simp [scheduled, hq, Instr.agent]

/-- A service that can go on has its sequencer enabled (R208). -/
theorem CanGoOn.seq_enabled (h : CanGoOn s) (hp : s.svc ≠ .idle) : agentEnabled .seq s := by
  obtain ⟨t, ht, -⟩ := exec_scheduled h
  exact ⟨scheduled s, scheduled_agent_of_service hp, t, ht⟩

/-- In a fair run a service takes the next of its steps, and the sequencer stands still until then. -/
theorem IsFairRun.exists_service_step {st : Nat → State} {op : Nat → Instr} {n : Nat} (h : IsFairRun st op)
    (hs : (st n).started = true) (hinv : Inv (st n)) (hp : (st n).svc ≠ .idle) :
    ∃ m, n < m ∧ (st m).started = true ∧ Inv (st m) ∧ (st n).svc.stepsLeft = (st m).svc.stepsLeft + 1 := by
  obtain ⟨m, hm, ⟨hsm, hinvm, hpm⟩, ha⟩ :=
    h.exists_seq_step (P := fun s => s.started = true ∧ Inv s ∧ s.svc = (st n).svc) ⟨hs, hinv, rfl⟩
      (fun s ⟨hs, hinv, hq⟩ => (hinv.canGoOn hs).seq_enabled (hq ▸ hp))
      (fun i s t ⟨hs, hinv, hq⟩ ha he =>
        ⟨eq_effect_of_exec he ▸ effect_started i s hs, hinv.of_exec he, (svc_eq_of_exec_of_not_seq hs ha he).trans hq⟩)
  have hrun := h.run m
  exact ⟨m + 1, by omega, eq_effect_of_exec hrun ▸ effect_started _ _ hsm, hinvm.of_exec hrun,
    hpm ▸ stepsLeft_of_exec ha (hpm ▸ hp) hrun⟩

/-- Settles O55, by induction on the steps the service has left: a fair run takes each of them. -/
theorem startedServiceEventuallyEnds : Obligations.StartedServiceEventuallyEnds := by
  intro st op n hfair hs hinv hp
  induction hk : (st n).svc.stepsLeft generalizing n with
  | zero => exact absurd (SvcPos.stepsLeft_eq_zero_iff.mp hk) hp
  | succ k ih =>
    obtain ⟨m, hm, hsm, hinvm, hstep⟩ := hfair.exists_service_step hs hinv hp
    by_cases hpm : (st m).svc = .idle
    · exact ⟨m, hm, hpm⟩
    · obtain ⟨l, hl, hend⟩ := ih m hsm hinvm hpm (by omega)
      exact ⟨l, hm.trans hl, hend⟩

end Sys2Proof.Machine
end

section
/-!
PROOFS. RESET and boot (R230 to R238): RESET's effect as the first word, the boot operations one by one, and the one state
RESET and BOOT lead to under each choice of parameters and draws. From there what the first service and the first release
of a button do (R246, R247); and the loop's toggle after a service has stopped `flash` (R243, R244).
-/

namespace Sys2Proof.Machine

variable {s t : State} {v : Pins} {n : Pin}

/-- Settles O10: the guard is that no word came before, and the effect writes every field. -/
theorem resetSetsEveryField : Obligations.ResetSetsEveryField :=
  ⟨fun _ _ => rfl, fun _ _ _ hs => exec_reset_next_iff.mpr ⟨hs, rfl⟩,
    fun _ _ _ hs => by simp [exec, execReset, hs]⟩

/-- Settles O12: the reset state is RESET's effect at the default parameters with both draws zero. -/
theorem resetStateIsAfterReset : Obligations.ResetStateIsAfterReset :=
  ⟨exec_reset_next_iff.mpr ⟨rfl, rfl⟩, by decide⟩

/-- Away from its position, or during a service, a loop operation that asks for the position is not enabled (R203). -/
theorem guarded_loopAt_of_not {p : LoopPos} (hn : ¬ (s.svc = .idle ∧ s.lpc = p)) (k : Result) :
    guarded (s.loopAt p) k = .refused .notEnabled := by
  rw [Bool.eq_false_iff.mpr fun h => hn (State.loopAt_iff.mp h).2, guarded_false]

/-- Settles O13: each boot operation's guard is its phase with the sequencer idle. -/
theorem bootOperationsConfigureTheBlock : Obligations.BootOperationsConfigureTheBlock :=
  ⟨⟨rfl, rfl, rfl, rfl, rfl⟩,
    fun _ hs hp =>
      ⟨fun hl => exec_bootClk_next_iff.mpr ⟨hs, hp, hl, rfl⟩, fun hl => exec_bootSwCfg_next_iff.mpr ⟨hs, hp, hl, rfl⟩,
        fun hl => exec_bootLedCfg_next_iff.mpr ⟨hs, hp, hl, rfl⟩, fun hl => exec_bootBuz_next_iff.mpr ⟨hs, hp, hl, rfl⟩,
        fun hl => exec_bootGie_next_iff.mpr ⟨hs, hp, hl, rfl⟩⟩,
    fun _ =>
      ⟨fun hn => guarded_loopAt_of_not hn _, fun hn => guarded_loopAt_of_not hn _, fun hn => guarded_loopAt_of_not hn _,
        fun hn => guarded_loopAt_of_not hn _, fun hn => guarded_loopAt_of_not hn _⟩⟩

/-- What BOOT makes of a state: the pins and the LED pins are configured, interrupts are enabled, and the loop is at TOP
(R232 to R236). -/
@[simps] def State.booted (s : State) : State :=
  { s with ie := 0b1111#4, sense := 0b1111#4, swcfg := true, ledOe := true, gie := true, lpc := .top }

/-- The boot operations complete one after another from the first phase (R232 to R236). -/
theorem execAll_boot (hs : s.started = true) (hp : s.svc = .idle) (hl : s.lpc = .bootClk) :
    execAll Pseudo.boot.expand s = .next s.booted := by
  refine execAll_cons_next_iff.mpr ⟨_, exec_bootClk_next_iff.mpr ⟨hs, hp, hl, rfl⟩,
    execAll_cons_next_iff.mpr ⟨_, exec_bootSwCfg_next_iff.mpr ⟨?_, ?_, ?_, rfl⟩,
      execAll_cons_next_iff.mpr ⟨_, exec_bootLedCfg_next_iff.mpr ⟨?_, ?_, ?_, rfl⟩,
        execAll_cons_next_iff.mpr ⟨_, exec_bootBuz_next_iff.mpr ⟨?_, ?_, ?_, rfl⟩,
          execAll_cons_next_iff.mpr ⟨_, exec_bootGie_next_iff.mpr ⟨?_, ?_, ?_, rfl⟩, ?booted⟩⟩⟩⟩⟩
  case booted =>
    simp [State.booted, State.setLpc, State.setIe, State.setSense, State.setSwcfg, State.setLedOe, State.setGie]
  all_goals simp [hs, hp]

/-- The state after RESET with these draws, under these parameters: launch with the draws made (R230). -/
@[simps] def State.afterReset (cfg : Config) (r : Pins) (l : Leds) : State :=
  { State.launch cfg with started := true, pend := r, led := l }

/-- RESET and BOOT complete from launch, whatever the parameters and the draws (R230, R231). -/
theorem execAll_reset_boot (cfg : Config) (r : Pins) (l : Leds) :
    execAll (.reset r l :: Pseudo.boot.expand) (State.launch cfg) = .next (State.afterReset cfg r l).booted :=
  execAll_cons_next_iff.mpr ⟨_, exec_reset_next_iff.mpr ⟨rfl, rfl⟩, execAll_boot rfl rfl rfl⟩

/-- A service that finds every button released emits nothing (R130). -/
theorem effects_service_events_of_released (h : s.lvl = 0b1111#4) (m : Pins) :
    (effects (Pseudo.service m 0b0000#4).expand s).events = s.events := by
  simp only [Pseudo.expand, effects, effect_svcBtn1, effect_svcBtn2, effect_svcBtn3, effect_svcBtn4]
  simp [effect, emits, State.released, h, pinBit_ones]

/-- Settles O51: a drawn flag requests the service, which finds every button released. -/
theorem bootServiceWithNoButtonHeldOnlyClears : Obligations.BootServiceWithNoButtonHeldOnlyClears := by
  intro cfg r m l hl hr hm
  have hflag : r &&& 0b1111#4 = r := BitVec.and_allOnes
  have hreq : (State.afterReset cfg r l).booted.req = true := State.req_iff.mpr ⟨rfl, by simpa [hflag] using hr, rfl⟩
  obtain ⟨t, ht, hd, -, hpend⟩ := execAll_service (m := m) rfl hreq (by simpa [hflag, State.launch] using hm)
  have hlvl : (State.afterReset cfg r l).booted.lvl = 0b1111#4 := hl
  have hev : t.events = [] := eq_effects_of_execAll ht ▸ effects_service_events_of_released hlvl m
  rw [hlvl] at hd
  obtain ⟨hplay, hflash, hled⟩ := hd.of_released
  exact ⟨t, execAll_append_next_iff.mpr ⟨_, execAll_reset_boot cfg r l, ht⟩, hplay, hflash, hled, hd.sense, hpend, hev,
    hd.snap, hd.lpc, hd.svc⟩

/-- On a pin armed for the press a release is no armed edge (R101, R106). -/
theorem State.latchedPend_release_of_armed (h : pinBit s.sense n = true) : s.latchedPend n true = s.pend := by
  simp [State.latchedPend, armedEdge, h]

/-- On a pin armed for the press a press of the released button sets its flag (R101, R106). -/
theorem State.pinBit_latchedPend_press_of_armed (h : pinBit s.sense n = true) (hl : pinBit s.lvl n = true) :
    pinBit (s.latchedPend n false) n = true := by
  simp [State.pinBit_latchedPend, armedEdge, h, hl]

/-- Settles O52: boot arms every pin for the press, whatever level it has. -/
theorem heldButtonsReleaseIsNotLatchedAtBoot : Obligations.HeldButtonsReleaseIsNotLatchedAtBoot := by
  intro cfg r l n _ _
  have hsense : pinBit (State.afterReset cfg r l).booted.sense n = true := pinBit_ones n
  have hrun : execAll (.reset r l :: Pseudo.boot.expand ++ (Pseudo.release n).expand) (State.launch cfg) =
      .next ((State.afterReset cfg r l).booted.drivePin n true) :=
    execAll_append_next_iff.mpr ⟨_, execAll_reset_boot cfg r l,
      execAll_cons_next_iff.mpr ⟨_, exec_pinSet_of_started rfl n true, rfl⟩⟩
  refine ⟨_, _, hrun, ?_, exec_pinSet_of_started (by simp) n false, ?_⟩
  · simp [State.latchedPend_release_of_armed hsense]
  · rw [State.drivePin_eq, State.setPend_pend]
    exact State.pinBit_latchedPend_press_of_armed (by simpa using hsense) (by simp [pinBit_setPinBit])

/-- A service that finds button 4 pressed while `flash` is on stops it, with both LEDs off (R128). -/
theorem Serviced.of_flash_stopped (h : Serviced s v t) (hf : s.flash = true) (hv : pinBit v 3 = false) :
    t.flash = false ∧ t.led = 0b00#2 := by
  simp [h.flash, h.led, hf, hv]

/-- A toggle that leads to FDLY and its delay complete, and bring the loop to TOP (R174, R178). -/
theorem execAll_toggle_delay {m : Leds} (hs : s.started = true) (hp : s.svc = .idle)
    (hm : flashTglNext s.lpc m = some .fdly) :
    execAll [.loopFlashTgl m, .loopDelay] s = .next ((s.ledXor m).setLpc .top) :=
  execAll_cons_next_iff.mpr ⟨_, exec_loopFlashTgl_next_iff.mpr ⟨hs, hp, _, hm, rfl⟩,
    execAll_cons_next_iff.mpr ⟨_, exec_loopDelay_next_iff.mpr ⟨hs, hp, .top, rfl, rfl⟩, rfl⟩⟩

/-- The two halves of a split toggle and its delay complete from FTGL_A (R174, R178). -/
theorem execAll_flashTick {a : Led} (hs : s.started = true) (hp : s.svc = .idle) (hl : s.lpc = .ftglA) :
    execAll (Pseudo.flashTick a).expand s =
      .next ((((s.ledXor a.mask).setLpc (.ftglB a)).ledXor (0b11#2 ^^^ a.mask)).setLpc .top) :=
  execAll_cons_next_iff.mpr
    ⟨_, exec_loopFlashTgl_next_iff.mpr ⟨hs, hp, _, flashTglNext_eq_some_iff.mpr (.inl ⟨a, hl, rfl, rfl⟩), rfl⟩,
      execAll_toggle_delay hs hp (flashTglNext_eq_some_iff.mpr (.inr (.inl ⟨a, rfl, rfl, rfl⟩)))⟩

/-- Settles O53: the toggle inverts its mask in the LEDs the service has switched off, and reads `flash` no more. -/
theorem staleFlashReadLightsLedsAfterFlashStop : Obligations.StaleFlashReadLightsLedsAfterFlashStop := by
  refine ⟨fun a s u t hs hl hf hrun hv => ?_, fun fm s u t hs hl hf hrun hv => ?_, fun s u t hs hl hf hrun hv => ?_⟩
  all_goals
    have d := hrun.serviced hs
    have hts : t.started = true := d.started.trans hs
    have htl := d.lpc.trans hl
    obtain ⟨hflash, hled⟩ := d.of_flash_stopped hf hv
  · refine ⟨_, execAll_flashTick hts d.svc htl, ?_, by simp [hflash], by simp⟩
    cases a <;> simp [hled, Led.mask]
  · refine ⟨_, execAll_toggle_delay hts d.svc (flashTglNext_eq_some_iff.mpr (.inr (.inl ⟨fm, htl, rfl, rfl⟩))), ?_⟩
    simp [hled, hflash]
  · refine ⟨_, execAll_toggle_delay hts d.svc (flashTglNext_eq_some_iff.mpr (.inr (.inr ⟨htl, rfl, rfl⟩))), ?_⟩
    simp [hled, hflash]

end Sys2Proof.Machine
end
